-- ==== Sys2Proof/Word.lean ====
section
/-! DEFINITION. The words the link carries: a byte and a two-byte value. -/

namespace Sys2Proof

/-- One byte of the processor link (spec 11, R197). -/
abbrev Byte := BitVec 8

/-- A two-byte value: a digest, a round counter, the event word (spec 11, R196, R203). -/
abbrev Half := BitVec 16

end Sys2Proof
end

