-- ==== Sys2Proof/Config.lean ====
section
/-! DEFINITION. The fixed numbers of the IVJ-2611, and the one free value: how the converter rounds. -/

namespace Sys2Proof.Config

/-- Slow-clock periods of one bit time Tb (spec 00, "Time"). -/
def bitPeriods : Nat := 8

/-- The period of a bit at whose end the line is sampled (spec 01, R2). -/
def samplePeriodOfBit : Nat := 5

/-- Slow-clock periods of one timer tick (spec 00, "Time"). -/
def tickPeriods : Nat := 512

/-- The idle run holds at this value (spec 01, R5). -/
def idleRunMax : Nat := 65535

/-- The idle run that ends Seeking (spec 01, R6). -/
def seekingPeriods : Nat := 1536

/-- The idle run before which an asserted reading is no start, and the stretch that accepts one (spec 01, R8). -/
def startPeriods : Nat := 32

/-- The longest stretch that sets no framing flag (spec 01, R8, R9). -/
def framingStretch : Nat := 64

/-- The periods a station drives its own start pulse (spec 01, R7). -/
def pulsePeriods : Nat := 48

/-- The asserted run that is a stuck line (spec 01, R15). -/
def stuckPeriods : Nat := 161

/-- The rejoin timer, the exclusion age and the census hold-off, in ticks (spec 03, R39; spec 09, R170, R172). -/
def twoSeconds : Nat := 128

/-- Voids in a row that make a void run (spec 02, R38). -/
def voidRun : Nat := 4

/-- Slow-clock periods of 0.1 s in the module timers (spec 06, R111). -/
def tenthPeriods : Nat := 3277

/-- The link hold loaded at a deassertion of LCS_N (spec 07, R133). -/
def linkHoldPeriods : Nat := 64

/-- The first whole slow-clock period at or after 8 ms, which is 262.144 periods (spec 07, R135).
DESIGN CHOICE (log 15). -/
def settleLimit : Nat := 263

/-- Whether the conversion of this number gives an input that stands between two steps of its channel the code of the
upper step. A free value: R138 gives the scale and not the rounding (log 34). -/
opaque freeRounding : Nat → Bool

/-- The largest value of a wake-timer count and of the quiet tick count (spec 04, R63; spec 08, R158). -/
def countMax : Nat := 16777215

/-- The largest value of spent (spec 08, R159). -/
def spentMax : Nat := 281474976710655

/-- Charge units of one coulomb (spec 08, R160). -/
def unitsPerCoulomb : Nat := 32768000

/-- Charge units of one millicoulomb (spec 08, R160). -/
def unitsPerMillicoulomb : Nat := 32768

/-- The most stations a census list holds (spec 09, R169). -/
def listMax : Nat := 32

end Sys2Proof.Config
end

