-- ==== Sys2Proof/Syntax.lean ====
section
/-! DEFINITION. The commands of the wake station: one constructor for each row of spec/opcode_table.json. -/

namespace Sys2Proof

/-- The twenty commands of the processor link (R197). -/
inductive LinkCommand where
  | readStationStatus | readCauseTable | readEpisodeTable | readDrainRecord | readCensus | readAndClearEvents
  | readConfigSection | writeConfigSection | fix | postCause | releaseCause | armTimer | startCensus
  | abandonCensus | hello | park | clearCut | requestRefill | requestRestore | rejoin
  deriving DecidableEq, Repr

/-- A command: a pin event, a happening that the part's own clocks bring, or a link command.
Each docstring names the row and the rule the row cites. -/
inductive Instr where
  /-- COLD_START (R39): power-on, brown-out, or RST_N released with RETAIN low. -/
  | coldStart
  /-- WARM_START (R41): RST_N released with RETAIN high. -/
  | warmStart
  /-- RST_N_LOW (R3). -/
  | rstNLow
  /-- SEEKING_END (R6): the idle run reaches 1,536 periods in Seeking. -/
  | seekingEnd
  /-- START_REQUEST (R32, R7): `fault` is the check point of the own start pulse (0 to 5) that reads
  released, if one does. -/
  | startRequest (fault : Option (Fin 6))
  /-- START_PULSE_SEEN (R8). -/
  | startPulseSeen
  /-- START_ACCEPTED (R8): the stretch reaches 32 periods. -/
  | startAccepted
  /-- GLITCH (R8): a stretch of under 32 periods ends. -/
  | glitch
  /-- ROUND (R17, R9 to R14): `stretch` is the length in periods of the stretch that the release edge ends
  (read while the LIF is in Pulse), `samples` are the next bit samples in order, and `closed` says
  whether the RE's round-closed report falls in this step when the void bit ends in it. A list that
  stops before the void bit leaves the round in progress. -/
  | round (stretch : Nat) (samples : List Bool) (closed : Bool)
  /-- STUCK_LINE (R15). -/
  | stuckLine
  /-- STUCK_LINE_CLEARED (R15). -/
  | stuckLineCleared
  /-- REJOIN_TIMER_EXPIRY (R49). -/
  | rejoinTimerExpiry
  /-- LOCAL_DECISION (R55). -/
  | localDecision
  /-- SENSE_FILTERED_EDGE (R62): the filtered level of `input` becomes `level`. -/
  | senseFilteredEdge (input : Fin 4) (level : Bool)
  /-- WAKE_TIMER_EXPIRY (R63). -/
  | wakeTimerExpiry (timer : Fin 2)
  /-- PATIENCE_EXPIRY (R69). -/
  | patienceExpiry (slot : Fin 16)
  /-- LINGER_EXPIRY (R71). -/
  | lingerExpiry (slot : Fin 16)
  /-- HEARTBEAT_EXPIRY (R105). -/
  | heartbeatExpiry
  /-- SETTLE_EXPIRY (R102). -/
  | settleExpiry
  /-- HELLO_TIMER_EXPIRY (R118). -/
  | helloTimerExpiry
  /-- GRACE_EXPIRY (R121). -/
  | graceExpiry
  /-- QUIET_DELAY_EXPIRY (R129). -/
  | quietDelayExpiry
  /-- CLOCK_CONFIRMED (R134). -/
  | clockConfirmed
  /-- CLOCK_SETTLE_TIMEOUT (R135). -/
  | clockSettleTimeout
  /-- CLOCK_OUT_OF_TOLERANCE (R135). -/
  | clockOutOfTolerance
  /-- LINK_HOLD_EXPIRY (R133). -/
  | linkHoldExpiry
  /-- BATTERY_TIMER_EXPIRY (R141). -/
  | batteryTimerExpiry
  /-- QUIET_INTERVAL_EXPIRY (R142). -/
  | quietIntervalExpiry
  /-- CONVERSION_END (R145): the conversion in flight ends. `input` is what stands at its channel (R138), in whole
  microvolts on VBAT and in whole picoamperes of module current on ISNS-L and ISNS-H (log 34). -/
  | conversionEnd (input : Int)
  /-- SAMPLE_BOUNDARY (R154). -/
  | sampleBoundary
  /-- EXCLUSION_AGE_OUT (R170). -/
  | exclusionAgeOut
  /-- HOLD_OFF_END (R172). -/
  | holdOffEnd
  /-- LINK_SELECT (R181): an assertion of LCS_N. -/
  | linkSelect
  /-- LINK_DESELECT (R182): a deassertion of LCS_N, `clocked` bytes of the answer clocked out before it. -/
  | linkDeselect (clocked : Nat)
  /-- UNKNOWN_COMMAND (R184): a completed command byte that names no command. -/
  | unknownCommand (byte : Byte)
  /-- READ_STATION_STATUS (R189). -/
  | readStationStatus
  /-- READ_CAUSE_TABLE (R58). -/
  | readCauseTable
  /-- READ_EPISODE_TABLE (R110). -/
  | readEpisodeTable
  /-- READ_DRAIN_RECORD (R168). -/
  | readDrainRecord
  /-- READ_CENSUS (R169). -/
  | readCensus
  /-- READ_AND_CLEAR_EVENTS (R194). -/
  | readAndClearEvents
  /-- READ_CONFIG_SECTION (R187): `section` in the spec is `ident` here, the identifier byte. -/
  | readConfigSection (ident : Byte)
  /-- WRITE_CONFIG_SECTION (R186): the identifier byte and the body bytes clocked in after it. -/
  | writeConfigSection (ident : Byte) (body : List Byte)
  /-- FIX (R188). -/
  | fix
  /-- POST_CAUSE (R66): the five argument bytes of R197. -/
  | postCause (slot cause linger patience rails : Byte)
  /-- RELEASE_CAUSE (R67). -/
  | releaseCause (slot : Byte)
  /-- ARM_TIMER (R64): timer number, three bytes of count, mode. -/
  | armTimer (timer : Byte) (count : BitVec 24) (mode : Byte)
  /-- START_CENSUS (R171). -/
  | startCensus (level : Byte)
  /-- ABANDON_CENSUS (R179). -/
  | abandonCensus
  /-- HELLO (R117). -/
  | hello
  /-- PARK (R120). -/
  | park
  /-- CLEAR_CUT (R128). -/
  | clearCut
  /-- REQUEST_REFILL (R191). -/
  | requestRefill
  /-- REQUEST_RESTORE (R191). -/
  | requestRestore
  /-- REJOIN (R51). -/
  | rejoin
  /-- ASSERTED_PERIOD_WATCH_READING (R5). -/
  | assertedPeriodWatchReading
  deriving DecidableEq, Repr

end Sys2Proof
end

