-- ==== Sys2Proof/Decode.lean ====
section
/-! DEFINITION. Decoding. No row of spec/opcode_table.json gives bits, so decodeTableWord answers none. The byte
codes of the link's own commands (spec 11, R197) are decoded and encoded here as well. -/

namespace Sys2Proof

/-- The command byte of a link command (R197). -/
def LinkCommand.code : LinkCommand → Byte
  | .readStationStatus => 0x11
  | .readCauseTable => 0x12
  | .readEpisodeTable => 0x13
  | .readDrainRecord => 0x14
  | .readCensus => 0x15
  | .readAndClearEvents => 0x16
  | .readConfigSection => 0x17
  | .writeConfigSection => 0x28
  | .fix => 0x29
  | .postCause => 0x31
  | .releaseCause => 0x32
  | .armTimer => 0x33
  | .startCensus => 0x41
  | .abandonCensus => 0x42
  | .hello => 0x51
  | .park => 0x52
  | .clearCut => 0x53
  | .requestRefill => 0x61
  | .requestRestore => 0x62
  | .rejoin => 0x71

/-- The link commands in the order of R197's table. -/
def LinkCommand.all : List LinkCommand :=
  [.readStationStatus, .readCauseTable, .readEpisodeTable, .readDrainRecord, .readCensus, .readAndClearEvents,
   .readConfigSection, .writeConfigSection, .fix, .postCause, .releaseCause, .armTimer, .startCensus,
   .abandonCensus, .hello, .park, .clearCut, .requestRefill, .requestRestore, .rejoin]

/-- The command a command byte names, if it names one (R184, R197). -/
def linkCommandOf (c : Byte) : Option LinkCommand := LinkCommand.all.find? fun k => k.code == c

/-- The body length in bytes of the section an identifier byte names, if it names one (R201). -/
def bodyLength (ident : Byte) : Option Nat :=
  if ident = 1 then some 4
  else if ident = 2 then some 8
  else if ident = 3 then some 46
  else if ident = 4 then some 25
  else if ident = 5 then some 7
  else if ident = 6 then some 50
  else none

/-- The command a word spells by the bits of spec/opcode_table.json: no row of the table gives bits. -/
def decodeTableWord (_nbits _w : Nat) : Option Instr := none

/-- The command that the bytes clocked in on LSI spell, command byte first (R182, R197): `none` while the
last argument byte is still missing. Bytes after the last argument byte are ignored (R182). -/
def decodeLink : List Byte → Option Instr
  | [] => none
  | c :: args =>
    match linkCommandOf c, args with
    | some .readStationStatus, _ => some .readStationStatus
    | some .readCauseTable, _ => some .readCauseTable
    | some .readEpisodeTable, _ => some .readEpisodeTable
    | some .readDrainRecord, _ => some .readDrainRecord
    | some .readCensus, _ => some .readCensus
    | some .readAndClearEvents, _ => some .readAndClearEvents
    | some .readConfigSection, ident :: _ => some (.readConfigSection ident)
    | some .writeConfigSection, ident :: rest =>
      match bodyLength ident with
      | some n => if n ≤ rest.length then some (.writeConfigSection ident (rest.take n)) else none
      | none => some (.writeConfigSection ident [])
    | some .fix, _ => some .fix
    | some .postCause, slot :: cause :: linger :: patience :: rails :: _ =>
      some (.postCause slot cause linger patience rails)
    | some .releaseCause, slot :: _ => some (.releaseCause slot)
    | some .armTimer, timer :: c2 :: c1 :: c0 :: mode :: _ => some (.armTimer timer (c2 ++ c1 ++ c0) mode)
    | some .startCensus, level :: _ => some (.startCensus level)
    | some .abandonCensus, _ => some .abandonCensus
    | some .hello, _ => some .hello
    | some .park, _ => some .park
    | some .clearCut, _ => some .clearCut
    | some .requestRefill, _ => some .requestRefill
    | some .requestRestore, _ => some .requestRestore
    | some .rejoin, _ => some .rejoin
    | none, _ => some (.unknownCommand c)
    | _, _ => none

/-- The bytes a link command clocks in on LSI, command byte first (R197); `none` for a command that is no
link command. -/
def encodeLink : Instr → Option (List Byte)
  | .readStationStatus => some [LinkCommand.readStationStatus.code]
  | .readCauseTable => some [LinkCommand.readCauseTable.code]
  | .readEpisodeTable => some [LinkCommand.readEpisodeTable.code]
  | .readDrainRecord => some [LinkCommand.readDrainRecord.code]
  | .readCensus => some [LinkCommand.readCensus.code]
  | .readAndClearEvents => some [LinkCommand.readAndClearEvents.code]
  | .readConfigSection ident => some [LinkCommand.readConfigSection.code, ident]
  | .writeConfigSection ident body => some (LinkCommand.writeConfigSection.code :: ident :: body)
  | .fix => some [LinkCommand.fix.code]
  | .postCause slot cause linger patience rails =>
    some [LinkCommand.postCause.code, slot, cause, linger, patience, rails]
  | .releaseCause slot => some [LinkCommand.releaseCause.code, slot]
  | .armTimer timer count mode =>
    some [LinkCommand.armTimer.code, timer, count.extractLsb' 16 8, count.extractLsb' 8 8, count.extractLsb' 0 8, mode]
  | .startCensus level => some [LinkCommand.startCensus.code, level]
  | .abandonCensus => some [LinkCommand.abandonCensus.code]
  | .hello => some [LinkCommand.hello.code]
  | .park => some [LinkCommand.park.code]
  | .clearCut => some [LinkCommand.clearCut.code]
  | .requestRefill => some [LinkCommand.requestRefill.code]
  | .requestRestore => some [LinkCommand.requestRestore.code]
  | .rejoin => some [LinkCommand.rejoin.code]
  | .unknownCommand byte => some [byte]
  | .coldStart | .warmStart | .rstNLow | .seekingEnd | .startRequest _ | .startPulseSeen | .startAccepted
  | .glitch | .round _ _ _ | .stuckLine | .stuckLineCleared | .rejoinTimerExpiry | .localDecision
  | .senseFilteredEdge _ _ | .wakeTimerExpiry _ | .patienceExpiry _ | .lingerExpiry _ | .heartbeatExpiry
  | .settleExpiry | .helloTimerExpiry | .graceExpiry | .quietDelayExpiry | .clockConfirmed
  | .clockSettleTimeout | .clockOutOfTolerance | .linkHoldExpiry | .batteryTimerExpiry
  | .quietIntervalExpiry | .conversionEnd _ | .sampleBoundary | .exclusionAgeOut | .holdOffEnd
  | .linkSelect | .linkDeselect _ | .assertedPeriodWatchReading => none

end Sys2Proof
end

