-- ==== Sys2Proof/Machine/State.lean ====
section
/-! DEFINITION. The state of the wake station, block by block (spec 00, "Blocks"), its reset value, and the
reasons a step could stop. Plain data throughout. -/

namespace Sys2Proof.Machine

/-! ## Small types -/

/-- A level L0 to L7 (spec 00, "Levels"). -/
abbrev Level := Fin 8

/-- A grade G0 to G7 (spec 00, "Grades"). -/
abbrev Grade := Fin 8

/-- A set of the eight cause classes, bit k for class k (spec 00, "Cause classes"; spec 11, R196). -/
abbrev Classes := BitVec 8

/-- A hold map: bit 6 is L7 and bit 0 is L1 (R196). -/
abbrev HoldMap := BitVec 7

/-- An alarm map: bit 3 StuckAwake, bit 2 FeedCut, bit 1 ProfileDisagreement, bit 0 ClockFault (R196, R201). -/
abbrev Alarms := BitVec 4

/-- A station number 1 to 63, with 0 for "no station" (spec 00, "Station numbers"). -/
abbrev Station := BitVec 6

/-! ## Line Interface (spec 01) -/

/-- The seven LIF states (spec 01, 1.3). -/
inductive LifState where
  | silent | seeking | idle | pulse | round | closing | stuck
  deriving DecidableEq, Repr

/-- The Line Interface. -/
structure Lif where
  state : LifState
  /-- The drive value: `true` is asserted (R1). -/
  drive : Bool
  /-- R5, 0 to 65,535. -/
  idleRun : Nat
  /-- R2. -/
  assertedRun : Nat
  /-- Consecutive asserted readings since the pulse was first seen (spec 01, 1.3). -/
  stretch : Nat
  /-- Set when this station began driving the pulse (spec 01, 1.3). -/
  starter : Bool
  /-- Periods for which this station has driven its own start pulse (R7). -/
  driven : Nat
  /-- The round bit that runs (R9, R10). -/
  bitPos : Nat
  /-- Periods of the round bit that have passed, 0 to 8; at 0 the bit has not begun (R9, R10). -/
  period : Nat
  /-- R9, R11. -/
  framing : Bool
  /-- R14. -/
  listener : Bool
  deriving DecidableEq, Repr

/-! ## Round Engine (spec 02) -/

/-- The four round types (R23). -/
inductive RoundType where
  | join | status | census | rest
  deriving DecidableEq, Repr

/-- The fields of the round layouts (R25 to R28); `cls l` is the class field of level l. -/
inductive Field where
  | typ | hold | cls (l : Level) | pressure | alarm | notice | objection
  | number | claim | digestMax | digestMin | count | requester | level | candidate
  deriving DecidableEq, Repr

/-- The parts a round is made of: the gap, a field, a separator, a confirm sub-field, the void bit (R10, R21, R22). -/
inductive Seg where
  | gap | field (f : Field) | sep | confirm (f : Field) | void
  deriving DecidableEq, Repr

/-- The station's role in a round, fixed at acceptance (R17). -/
inductive Role where
  | member | nonMember
  deriving DecidableEq, Repr

/-- A want flag with its renewed mark (R31). -/
structure Want where
  held : Bool
  renewed : Bool
  deriving DecidableEq, Repr

/-- The round record (R17). -/
structure RoundRecord where
  role : Role
  /-- Still a starter: cleared when this station loses the type field (R23). -/
  starter : Bool
  /-- The type named in the start request, for a starter (R32). -/
  named : Option RoundType
  /-- The round type, once the type field has been sampled and is valid (R24). -/
  rtype : Option RoundType
  /-- The invalid-type mark (R24). -/
  invalid : Bool
  /-- Field position: the part of the layout that runs. -/
  seg : Nat
  /-- Field position: the bit of that part. -/
  bit : Nat
  /-- The first bit of that part has begun, and its values have been taken (R30, R31). -/
  begun : Bool
  /-- This station drives the part that runs. -/
  drives : Bool
  /-- The drive value of the part that runs, as it goes on the line, first bit first. -/
  value : List Bool
  /-- The lost flag (R18). -/
  lost : Bool
  /-- The bit samples of the part that runs. -/
  samples : List Bool
  /-- The completed fields in the order sent, with their raw bit samples. -/
  results : List (Field × List Bool)
  /-- The levels that get a class field; their number is n (R25). -/
  newLevels : List Level
  /-- The levels on the committed table when the start was accepted, against which n is counted (log 7). -/
  known : List Level
  /-- The mismatch mark (R21). -/
  mismatch : Bool
  /-- This station is the winning joiner (R26) or the winning requester (R27). -/
  winner : Bool
  /-- The Refill bit was driven (R30). -/
  refillDriven : Bool
  /-- The Restore bit was driven (R30). -/
  restoreDriven : Bool
  /-- The hold map this station drove (R88). -/
  holdDriven : HoldMap
  /-- The RE has abandoned the round after a drive fault and only the bit count is kept, for the
  listener (R14, R36; log 7). -/
  abandoned : Bool
  deriving DecidableEq, Repr

/-- The Round Engine. -/
structure Re where
  /-- The want set with its marks (R31). -/
  join : Want
  status : Want
  census : Want
  rest : Want
  /-- The type named by the start request in progress (R32). -/
  named : Option RoundType
  /-- The round record (R17). -/
  record : Option RoundRecord
  /-- The void counter (R38). -/
  voids : Nat
  deriving DecidableEq, Repr

/-! ## Membership Controller (spec 03) -/

/-- The five membership states (spec 03, 3.1). -/
inductive Membership where
  | unconfigured | joining | member | degraded | isolated
  deriving DecidableEq, Repr

/-- The last refusal or fault (R39). -/
inductive LineFault where
  | duplicate | profile | stuckLine | driveFault | voidRun | lostSync
  deriving DecidableEq, Repr

/-- The membership record (R39), and the local decisions that are due (R55, R56; log 16). -/
structure Mc where
  state : Membership
  number : Station
  digest : Half
  /-- The round counter (R37). -/
  counter : Half
  disagreement : Bool
  /-- Ticks left, `none` when stopped (R49). -/
  rejoin : Option Nat
  lastFault : Option LineFault
  /-- A Status want raised in local mode waits for its decision (R55). -/
  decisionDue : Bool
  /-- A settle expiry waits for its Rest decision behind a Status decision (R56, R109). -/
  restDue : Bool
  deriving DecidableEq, Repr

/-! ## Cause Table (spec 04) -/

/-- How a cause ends (R58). -/
inductive CauseMode where
  | momentary | level
  deriving DecidableEq, Repr

/-- Where a cause stands (R58). -/
inductive CauseState where
  | disabled | idle | pending | held | lingering
  deriving DecidableEq, Repr

/-- A cause entry (R58). -/
structure Cause where
  level : Level
  cls : Fin 8
  mode : CauseMode
  linger : Byte
  patience : Byte
  /-- The self-rails code: 1 is A, 3 is A and B (R197). -/
  rails : Byte
  state : CauseState
  offered : Bool
  merged : Bool
  expiryHeld : Bool
  countdown : Nat
  opened : Option Half
  deriving DecidableEq, Repr

/-- A sense input's filter (R61). -/
structure Sense where
  filtered : Bool
  run : Nat
  deriving DecidableEq, Repr

/-- A wake timer (R63). -/
structure WakeTimer where
  count : Nat
  reload : Nat
  periodic : Bool
  running : Bool
  deriving DecidableEq, Repr

/-- The Cause Table. -/
structure Ct where
  /-- Slots 0 to 15 (R58). -/
  slots : List Cause
  /-- SNS0 to SNS3 (R61). -/
  sense : List Sense
  /-- Wake timers 0 and 1 (R63). -/
  timers : List WakeTimer
  /-- The offer record: class sets by level (R73). -/
  offers : List (Level × Classes)
  deriving DecidableEq, Repr

/-! ## Episode View (spec 05) -/

/-- An entry of the episode table (R83). -/
structure Entry where
  level : Level
  exclusive : Bool
  opened : Option Half
  classes : Option Classes
  suspended : Bool
  own : Bool
  learned : Bool
  deriving DecidableEq, Repr

/-- The network state (R99). -/
inductive NetState where
  | rest | awake | settling
  deriving DecidableEq, Repr

/-- The Episode View. -/
structure Ev where
  /-- Lowest level first (R82). -/
  table : List Entry
  net : NetState
  grade : Grade
  alarm : Alarms
  /-- Ticks left, `none` when stopped (R104). -/
  heartbeat : Option Nat
  /-- Ticks left, `none` when stopped (R102). -/
  settle : Option Nat
  deriving DecidableEq, Repr

/-! ## Module Power Controller (spec 06) -/

/-- The module state (R111). -/
inductive ModuleState where
  | off | powering | on | parking | cut
  deriving DecidableEq, Repr

/-- The rails the module requires (R114). -/
inductive Need where
  | empty | a | ab
  deriving DecidableEq, Repr

/-- The power record (R111). The three countdowns are held in slow-clock periods, `none` when stopped. -/
structure Mpc where
  state : ModuleState
  feed : Bool
  raila : Bool
  railb : Bool
  frozen : Bool
  need : Need
  loud : Nat
  hello : Option Nat
  grace : Option Nat
  quietDelay : Option Nat
  deriving DecidableEq, Repr

/-! ## Measurement Unit (spec 07) -/

/-- The fast-clock state (R133). -/
inductive ClockState where
  | stopped | settling | running | failed
  deriving DecidableEq, Repr

/-- The converter's three users (R138). -/
inductive User where
  | battery | quiet | drain
  deriving DecidableEq, Repr

/-- The converter's three channels (R138). -/
inductive Channel where
  | vbat | isnsL | isnsH
  deriving DecidableEq, Repr

/-- The Measurement Unit. -/
structure Mu where
  clock : ClockState
  /-- The period in which the attempt began, kept while Settling (R133). -/
  startTime : Option Nat
  linkHold : Nat
  clockFault : Bool
  reqBattery : Bool
  reqQuiet : Bool
  reqDrain : Bool
  /-- The conversion in flight (R138). -/
  inFlight : Option User
  /-- The last excess (R144). -/
  quietRecord : Option Nat
  /-- The last deficit (R144). -/
  deficit : Option Nat
  batteryLow : Bool
  /-- Ticks left, `none` when stopped (R141). -/
  batteryTimer : Option Nat
  /-- Ticks left, `none` when stopped (R142). -/
  quietTimer : Option Nat
  /-- Conversions finished: the model's own field, which the free rounding is taken at (log 34). -/
  conversions : Nat
  deriving DecidableEq, Repr

/-! ## Drain Account (spec 08) -/

/-- The drain account record (R152). -/
structure Da where
  /-- Position 0, the newest, first (R155). -/
  window : List (BitVec 12)
  /-- The filtered current f (R156). -/
  filtered : Nat
  saturated : Bool
  /-- In units of 2^-15 mC (R159). -/
  spent : Nat
  /-- `none` when stopped (R158). -/
  quietTicks : Option Nat
  exhausted : Bool
  balanceGrade : Grade
  rateGrade : Grade
  /-- The pressure grade p (R164). -/
  pressure : Grade
  /-- Periods since the last sample boundary, `none` when stopped (R154). -/
  phase : Option Nat
  deriving DecidableEq, Repr

/-! ## Census Unit (spec 09) -/

/-- The state of the station's own census (R169). -/
inductive CensusState where
  | idle | waiting | running | complete | abandoned
  deriving DecidableEq, Repr

/-- The exclusion record (R170). -/
structure Exclusion where
  requester : Station
  level : Level
  found : Bool
  age : Nat
  deriving DecidableEq, Repr

/-- The Census Unit: the requester record (R169) and the exclusion record (R170). -/
structure Cu where
  state : CensusState
  level : Level
  /-- The stations found, first found first. -/
  list : List Station
  disturbed : Bool
  truncated : Bool
  closeOwed : Bool
  /-- `true` is present. -/
  reference : Bool
  holdOff : Nat
  exclusion : Option Exclusion
  deriving DecidableEq, Repr

/-! ## Processor Link (spec 10) -/

/-- The sixteen events (R193). -/
inductive Event where
  | causeExpired | causeCurtailed | episodeChange | parkRequest | parkCancelled | parkForced | moduleSilent
  | censusDone | feedCut | lineTrouble | isolated | gradeChange | accountExhausted | clockFault | batteryLow
  | alarmChange
  deriving DecidableEq, Repr

/-- The transaction in progress (R182): in its Command phase, in its Arguments phase with argument bytes still to
come, refused with the status byte that every later byte shows (R183, R184), or taken with the status byte and the
response bytes. -/
inductive Txn where
  | opened
  | arguments
  | refused (status : Byte)
  | taken (answer : List Byte)
  deriving DecidableEq, Repr

/-- The configuration store: six section bodies (R201). -/
structure Store where
  identity : List Byte
  profile : List Byte
  causes : List Byte
  attendance : List Byte
  modul : List Byte
  drain : List Byte
  deriving DecidableEq, Repr

/-- The Processor Link. -/
structure Pl where
  /-- The sixteen event flags, placed as in the event word (R203). -/
  events : Half
  /-- The clearing marks, placed the same way (R194). -/
  clearing : Half
  refill : Bool
  restore : Bool
  /-- The transaction in progress, `none` when there is none (R181). -/
  txn : Option Txn
  store : Store
  deriving DecidableEq, Repr

/-! ## Pins, and the whole state -/

/-- The levels on the pins the station reads (spec 00, "Pins and electrical summary"). -/
structure Pins where
  /-- RST_N is high. -/
  rstN : Bool
  /-- Some peer drives WAKE asserted (R1). -/
  wakePeers : Bool
  /-- The raw levels of SNS0 to SNS3, `true` for high. -/
  sns : List Bool
  /-- LCS_N is asserted. -/
  lcs : Bool
  deriving DecidableEq, Repr

/-- The state of the wake station, with the queue of commands that wait. -/
structure State where
  lif : Lif
  re : Re
  mc : Mc
  ct : Ct
  ev : Ev
  mpc : Mpc
  mu : Mu
  da : Da
  cu : Cu
  pl : Pl
  pins : Pins
  /-- Slow-clock periods counted: the model's own field (log 14). -/
  time : Nat
  /-- The commands that wait, first in, first out: the model's own field. -/
  pending : List Instr
  deriving DecidableEq, Repr

/-! ## Values after a cold start -/

/-- The LIF after a cold start (R2, R3; the rest log 12). -/
def Lif.cold : Lif :=
  { state := .silent, drive := false, idleRun := 0, assertedRun := 0, stretch := 0, starter := false, driven := 0,
    bitPos := 0, period := 0, framing := false, listener := false }

/-- A want that is not held. -/
def Want.clear : Want := { held := false, renewed := false }

/-- The RE after a cold or a warm start (R17, R31, R38). -/
def Re.cold : Re :=
  { join := .clear, status := .clear, census := .clear, rest := .clear, named := none, record := none, voids := 0 }

/-- The membership record after a cold start (R39). -/
def Mc.cold : Mc :=
  { state := .unconfigured, number := 0, digest := 0, counter := 0, disagreement := false, rejoin := none,
    lastFault := none, decisionDue := false, restDue := false }

/-- A Disabled slot at level 0 (R60). -/
def Cause.disabled : Cause :=
  { level := 0, cls := 0, mode := .momentary, linger := 0, patience := 0, rails := 0, state := .disabled,
    offered := false, merged := false, expiryHeld := false, countdown := 0, opened := none }

/-- A wake timer after a cold start (R60). -/
def WakeTimer.stopped : WakeTimer := { count := 0, reload := 0, periodic := false, running := false }

/-- Filtered levels taken from the raw levels, with no edge (R60). -/
def Sense.firstSamples (sns : List Bool) : List Sense := sns.map fun b => { filtered := b, run := 0 }

/-- The CT after a cold start with the given pin levels (R60). -/
def Ct.cold (sns : List Bool) : Ct :=
  { slots := List.replicate 16 .disabled, sense := Sense.firstSamples sns,
    timers := [.stopped, .stopped], offers := [] }

/-- The EV after a start and at every entry to Joining (R85). -/
def Ev.cold : Ev :=
  { table := [], net := .rest, grade := 0, alarm := 0, heartbeat := none, settle := none }

/-- The power record after a cold start (R111). -/
def Mpc.cold : Mpc :=
  { state := .on, feed := true, raila := true, railb := false, frozen := false, need := .empty, loud := 0,
    hello := none, grace := none, quietDelay := none }

/-- The MU after a cold start from power-on (R150; the count of conversions log 34). -/
def Mu.cold : Mu :=
  { clock := .stopped, startTime := none, linkHold := 0, clockFault := false, reqBattery := false,
    reqQuiet := false, reqDrain := false, inFlight := none, quietRecord := none, deficit := none,
    batteryLow := false, batteryTimer := none, quietTimer := none, conversions := 0 }

/-- The drain account record after a cold start (R152). -/
def Da.cold : Da :=
  { window := List.replicate 16 0, filtered := 0, saturated := false, spent := 0, quietTicks := none,
    exhausted := false, balanceGrade := 0, rateGrade := 0, pressure := 0, phase := none }

/-- The CU after a cold or a warm start (R169, R170). -/
def Cu.cold : Cu :=
  { state := .idle, level := 0, list := [], disturbed := false, truncated := false, closeOwed := false,
    reference := false, holdOff := 0, exclusion := none }

/-- Every field of every section 0 (R186, R201). -/
def Store.defaults : Store :=
  { identity := List.replicate 4 0, profile := List.replicate 8 0, causes := List.replicate 46 0,
    attendance := List.replicate 25 0, modul := List.replicate 7 0, drain := List.replicate 50 0 }

/-- The PL after a cold start (R186, R191, R193). That no flag is marked clearing and no transaction is in progress
after a start is the model's choice (log 12). -/
def Pl.cold : Pl :=
  { events := 0, clearing := 0, refill := false, restore := false, txn := none, store := .defaults }

/-- The pin levels the model takes at power-on: DESIGN CHOICE (log 12). -/
def Pins.powerOn : Pins :=
  { rstN := true, wakePeers := false, sns := [false, false, false, false], lcs := false }

/-- The station right after a cold start from power-on, with nothing waiting. -/
def State.reset : State :=
  { lif := .cold, re := .cold, mc := .cold, ct := .cold Pins.powerOn.sns, ev := .cold, mpc := .cold, mu := .cold,
    da := .cold, cu := .cold, pl := .cold, pins := .powerOn, time := 0, pending := [] }

/-! ## Updates of one block -/

def State.withLif (s : State) (x : Lif) : State := { s with lif := x }
def State.withRe (s : State) (x : Re) : State := { s with re := x }
def State.withMc (s : State) (x : Mc) : State := { s with mc := x }
def State.withCt (s : State) (x : Ct) : State := { s with ct := x }
def State.withEv (s : State) (x : Ev) : State := { s with ev := x }
def State.withMpc (s : State) (x : Mpc) : State := { s with mpc := x }
def State.withMu (s : State) (x : Mu) : State := { s with mu := x }
def State.withDa (s : State) (x : Da) : State := { s with da := x }
def State.withCu (s : State) (x : Cu) : State := { s with cu := x }
def State.withPl (s : State) (x : Pl) : State := { s with pl := x }
def State.withPins (s : State) (x : Pins) : State := { s with pins := x }
def State.withTime (s : State) (x : Nat) : State := { s with time := x }
def State.withPending (s : State) (x : List Instr) : State := { s with pending := x }

/-! ## Reasons to stop -/

/-- Faults. The spec gives every command an effect in every state, so no command of the station ends in a
fault and the type has no constructor (safe: nothing raises one). -/
inductive Fault where
  deriving DecidableEq, Repr

/-- Refusals. -/
inductive Refusal where
  /-- A command whose arm of exec has no meaning yet. No arm raises it; safe. -/
  | notModelled (mnemonic : String)
  deriving DecidableEq, Repr

end Sys2Proof.Machine
end

