-- ==== Sys2Proof/Machine/Operands.lean ====
section
/-! DEFINITION. Operand forms: bytes and bit runs, hold maps and class sets, the configuration store's fields
(spec 11, R201) and the masks of its defined bits (R198). -/

namespace Sys2Proof.Machine

/-! ## Bytes and bit runs -/

/-- Byte i of a body, 0 past its end. -/
def byteAt (b : List Byte) (i : Nat) : Byte := b.getD i 0

/-- The two-byte value at byte i, most significant byte first (R197). -/
def halfAt (b : List Byte) (i : Nat) : Half := byteAt b i ++ byteAt b (i + 1)

/-- The three-byte value at byte i, most significant byte first (R197). -/
def tripleAt (b : List Byte) (i : Nat) : Nat :=
  (byteAt b i).toNat * 65536 + (byteAt b (i + 1)).toNat * 256 + (byteAt b (i + 2)).toNat

/-- The three bits of a byte from bit `lo` up. -/
def bits3 (b : Byte) (lo : Nat) : Fin 8 := Fin.ofNat 8 (b.toNat / 2 ^ lo)

/-- The low `w` bits of n, most significant first: the order of the wake line (spec 00, "Field bit order"). -/
def bitsOfNat : Nat → Nat → List Bool
  | 0, _ => []
  | w + 1, n => n.testBit w :: bitsOfNat w n

/-- Bit samples read as a binary number, most significant first (R18). -/
def natOfBits (bs : List Bool) : Nat := bs.foldl (fun n b => 2 * n + b.toNat) 0

/-- The w low bytes of n, most significant first (R197). -/
def bytesOfNat : Nat → Nat → List Byte
  | 0, _ => []
  | w + 1, n => BitVec.ofNat 8 (n / 256 ^ w) :: bytesOfNat w n

/-- A flag at bit k of a byte. -/
def flagBit (k : Nat) (b : Bool) : Byte := if b then BitVec.ofNat 8 (2 ^ k) else 0

/-! ## Levels, hold maps, class sets -/

/-- The levels at which episodes open, ascending (spec 00, "Levels"). -/
def levels : List Level := [1, 2, 3, 4, 5, 6, 7]

/-- The level's bit of a hold map is asserted (R196). -/
def holdHas (h : HoldMap) (l : Level) : Bool := l != 0 && h.getLsbD (l.val - 1)

/-- The hold map of the levels that satisfy p (R196). -/
def holdOf (p : Level → Bool) : HoldMap :=
  levels.foldl (fun h l => if p l then h ||| BitVec.ofNat 7 (2 ^ (l.val - 1)) else h) 0

/-- The class set of one class (R196). -/
def classSet (c : Fin 8) : Classes := BitVec.ofNat 8 (2 ^ c.val)

/-! ## The cause byte and the self-rails code (R197) -/

/-- Level: bits 7 to 5 of the cause byte. -/
def causeLevel (b : Byte) : Level := bits3 b 5

/-- Class: bits 4 to 2 of the cause byte. -/
def causeClass (b : Byte) : Fin 8 := bits3 b 2

/-- Mode: bit 1 of the cause byte. -/
def causeMode (b : Byte) : CauseMode := if b.getLsbD 1 then .level else .momentary

/-- The self-rails codes 0, 1 and 3 are the defined ones (R197, R199). -/
def railsDefined (r : Byte) : Bool := r == 0 || r == 1 || r == 3

/-- The rails a defined rails code names (R197, R201). -/
def railsNeed (r : Byte) : Need := if r = 1 then .a else if r = 3 then .ab else .empty

/-- The union of two sets of rails (R114). -/
def Need.union : Need → Need → Need
  | .ab, _ => .ab
  | _, .ab => .ab
  | .a, _ => .a
  | _, .a => .a
  | .empty, .empty => .empty

/-! ## The store a block works from -/

/-- The configuration is fixed: the station has left Unconfigured by Fix (R40, R188). -/
def State.fixed (s : State) : Bool := s.mc.state != .unconfigured

/-- The settings the blocks take from the configuration at Fix: the fixed store, and the cold-start defaults
before Fix (R111, R151, R153). A fixed configuration cannot change (R186), so it is held once (log 21). -/
def State.settings (s : State) : Store := if s.fixed then s.pl.store else .defaults

/-! ## Identity (R201) -/

def Store.stationNumber (c : Store) : Station := (byteAt c.identity 0).setWidth 6
def Store.eventMask (c : Store) : Half := halfAt c.identity 1
def Store.alarmMask (c : Store) : Alarms := (byteAt c.identity 3).setWidth 4

/-! ## Profile (R52, R201) -/

/-- Word Wi of the profile. -/
def Store.profileWord (c : Store) (i : Nat) : Half := halfAt c.profile (2 * i)

/-- The profile's mode of a level: 1 is Exclusive, bit 0 of W0 is L1. -/
def Store.exclusive (c : Store) (l : Level) : Bool := l != 0 && (byteAt c.profile 1).getLsbD (l.val - 1)

/-- The austerity floor F_G of a grade: four floors in W1 and four in W2. -/
def Store.floorOf (c : Store) (g : Grade) : Level :=
  bits3 (byteAt c.profile (2 + g.val / 2)) (if g.val % 2 = 0 then 4 else 0)

def Store.heartbeatCode (c : Store) : Nat := (byteAt c.profile 6).toNat % 32
def Store.settleCode (c : Store) : Nat := (byteAt c.profile 7).toNat % 32

/-- One step of the one's-complement sum: the carry out of bit 15 is added back into bit 0 (R53). -/
def onesAdd (a w : Half) : Half :=
  let t := a.toNat + w.toNat
  BitVec.ofNat 16 (if t < 65536 then t else t - 65536 + 1)

/-- The profile digest (R53). -/
def Store.digest (c : Store) : Half :=
  onesAdd (onesAdd (onesAdd (onesAdd 0 (c.profileWord 0)) (c.profileWord 1)) (c.profileWord 2)) (c.profileWord 3)

/-! ## Causes (R59, R61, R62, R64, R201) -/

def Store.slotCause (c : Store) (i : Nat) : Byte := byteAt c.causes (4 * i)
def Store.slotLinger (c : Store) (i : Nat) : Byte := byteAt c.causes (4 * i + 1)
def Store.slotPatience (c : Store) (i : Nat) : Byte := byteAt c.causes (4 * i + 2)
def Store.slotRails (c : Store) (i : Nat) : Byte := byteAt c.causes (4 * i + 3)

/-- The sense byte of input k: bytes 28 to 31. -/
def Store.senseByte (c : Store) (k : Nat) : Byte := byteAt c.causes (28 + k)

/-- The filter length in samples (R61): codes 0 to 3 give 1, 8, 64, 512. -/
def Store.filterLength (c : Store) (k : Nat) : Nat := 8 ^ ((c.senseByte k).toNat % 4)

/-- The trigger-edge code: 0 both, 1 rising, 2 falling (R201). -/
def Store.edgeCode (c : Store) (k : Nat) : Nat := (c.senseByte k).toNat / 4 % 4

/-- The active level of a sense input, `true` for high (bit 4 at 0). -/
def Store.activeHigh (c : Store) (k : Nat) : Bool := !(c.senseByte k).getLsbD 4

/-- A filtered edge to `level` matches the trigger edge (R62). -/
def Store.edgeMatches (c : Store) (k : Nat) (level : Bool) : Bool :=
  c.edgeCode k == 0 || (c.edgeCode k == 1 && level) || (c.edgeCode k == 2 && !level)

def Store.timerCount (c : Store) (t : Nat) : Nat := tripleAt c.causes (32 + 7 * t)
def Store.timerReload (c : Store) (t : Nat) : Nat := tripleAt c.causes (35 + 7 * t)
def Store.timerMode (c : Store) (t : Nat) : Byte := byteAt c.causes (38 + 7 * t)

/-! ## Attendance (R113, R201) -/

/-- A row of the attendance table (R113). -/
structure Row where
  low : Level
  high : Level
  mask : Classes
  rails : Byte
  deriving DecidableEq, Repr

/-- Row i as the section body holds it. -/
def Store.rowAt (c : Store) (i : Nat) : Row :=
  { low := bits3 (byteAt c.attendance (1 + 3 * i)) 4, high := bits3 (byteAt c.attendance (1 + 3 * i)) 0,
    mask := byteAt c.attendance (2 + 3 * i), rails := byteAt c.attendance (3 + 3 * i) }

def Store.rowCount (c : Store) : Nat := (byteAt c.attendance 0).toNat

/-- The attendance table: the counted rows in their order (R113). -/
def Store.rows (c : Store) : List Row := ([0, 1, 2, 3, 4, 5, 6, 7].take c.rowCount).map c.rowAt

/-! ## Module (R113, R201) -/

def Store.helloCode (c : Store) : Nat := (byteAt c.modul 0).toNat
def Store.graceCode (c : Store) : Nat := (byteAt c.modul 1).toNat
def Store.quietDelayCode (c : Store) : Nat := (byteAt c.modul 2).toNat
def Store.quietIntervalCode (c : Store) : Nat := (byteAt c.modul 3).toNat
def Store.loudLimit (c : Store) : Nat := (byteAt c.modul 4).toNat
def Store.cutEnabled (c : Store) : Bool := byteAt c.modul 5 == 1
def Store.overrideLevel (c : Store) : Nat := (byteAt c.modul 6).toNat

/-! ## Drain (R151, R153, R201) -/

/-- The allowance in units of 2^-15 mC (R160). -/
def Store.allowance (c : Store) : Nat := (halfAt c.drain 0).toNat * Config.unitsPerCoulomb
def Store.samplePeriodCode (c : Store) : Nat := (byteAt c.drain 2).toNat % 4

/-- The sample period in slow-clock periods (R154). -/
def Store.samplePeriod (c : Store) : Nat := 1024 * 2 ^ c.samplePeriodCode

/-- The charge factor m (R154). -/
def Store.chargeFactor (c : Store) : Nat := 512 * 2 ^ c.samplePeriodCode
def Store.weight (c : Store) (j : Nat) : Nat := (byteAt c.drain (3 + j)).toNat
def Store.shift (c : Store) : Nat := (byteAt c.drain 19).toNat

/-- Balance threshold t_g, g from 1 to 7. -/
def Store.balanceThreshold (c : Store) (g : Grade) : Nat := (byteAt c.drain (19 + g.val)).toNat

/-- Rate threshold r_g, g from 1 to 7. -/
def Store.rateThreshold (c : Store) (g : Grade) : Nat := (halfAt c.drain (25 + 2 * g.val)).toNat
def Store.quietFloor (c : Store) : Nat := (halfAt c.drain 41).toNat
def Store.quietLimit (c : Store) : Nat := (halfAt c.drain 43).toNat % 4096
def Store.batteryLimit (c : Store) : Nat := (halfAt c.drain 45).toNat % 4096
def Store.awakeBatteryCode (c : Store) : Nat := (byteAt c.drain 47).toNat
def Store.restBatteryCode (c : Store) : Nat := (byteAt c.drain 48).toNat

/-- The clock settle code (R134). -/
def Store.clockSettleCode (c : Store) : Nat := (byteAt c.drain 49).toNat % 4

/-- The settle interval of 0.5, 1, 2 or 4 ms, in slow-clock periods up to the first whole one at or after it (R134).
DESIGN CHOICE (log 15). -/
def Store.settleInterval (c : Store) : Nat := [17, 33, 66, 132].getD c.clockSettleCode 132

/-! ## Sections by identifier (R186, R187, R198, R201) -/

/-- The stored body of the section an identifier byte names. -/
def Store.body (c : Store) (ident : Byte) : Option (List Byte) :=
  if ident = 1 then some c.identity
  else if ident = 2 then some c.profile
  else if ident = 3 then some c.causes
  else if ident = 4 then some c.attendance
  else if ident = 5 then some c.modul
  else if ident = 6 then some c.drain
  else none

/-- The defined bits of each byte of a section body (R198, R201). -/
def sectionMask (ident : Byte) : List Byte :=
  if ident = 1 then [0x3F, 0xFF, 0xFF, 0x0F]
  else if ident = 2 then [0x00, 0x7F, 0x77, 0x77, 0x77, 0x77, 0x1F, 0x1F]
  else if ident = 3 then
    [0xFE, 0xFF, 0xFF, 0xFF, 0xFE, 0xFF, 0xFF, 0xFF, 0xFE, 0xFF, 0xFF, 0xFF, 0xFE, 0xFF, 0xFF, 0xFF]
      ++ [0xFE, 0xFF, 0xFF, 0xFF, 0xFE, 0xFF, 0xFF, 0xFF, 0xFE, 0xFF, 0xFF, 0xFF]
      ++ [0x1F, 0x1F, 0x1F, 0x1F] ++ List.replicate 14 0xFF
  else if ident = 4 then
    0xFF :: ([0x77, 0xFF, 0xFF, 0x77, 0xFF, 0xFF, 0x77, 0xFF, 0xFF, 0x77, 0xFF, 0xFF]
      ++ [0x77, 0xFF, 0xFF, 0x77, 0xFF, 0xFF, 0x77, 0xFF, 0xFF, 0x77, 0xFF, 0xFF])
  else if ident = 5 then List.replicate 7 0xFF
  else if ident = 6 then
    [0xFF, 0xFF, 0x03] ++ List.replicate 16 0xFF ++ List.replicate 22 0xFF
      ++ [0xFF, 0xFF, 0x0F, 0xFF, 0x0F, 0xFF, 0xFF, 0xFF, 0x03]
  else []

/-- A written body as the store keeps it: every undefined bit 0 (R198). -/
def maskBody (ident : Byte) (body : List Byte) : List Byte :=
  List.zipWith (fun b m => b &&& m) body (sectionMask ident)

/-- The store with one section replaced whole (R186). -/
def Store.write (c : Store) (ident : Byte) (body : List Byte) : Store :=
  let b := maskBody ident body
  if ident = 1 then { c with identity := b }
  else if ident = 2 then { c with profile := b }
  else if ident = 3 then { c with causes := b }
  else if ident = 4 then { c with attendance := b }
  else if ident = 5 then { c with modul := b }
  else if ident = 6 then { c with drain := b }
  else c

/-! ## Validation at Fix (R188) -/

/-- The Identity section passes (R188, R200). -/
def Store.identityOk (c : Store) : Bool := c.stationNumber != 0

/-- The Profile section passes: floors do not fall and both codes lie in 1 to 16 (R52). -/
def Store.profileOk (c : Store) : Bool :=
  levels.all (fun g => decide (c.floorOf (Fin.ofNat 8 (g.val - 1)) ≤ c.floorOf g))
    && decide (1 ≤ c.heartbeatCode) && decide (c.heartbeatCode ≤ 16)
    && decide (1 ≤ c.settleCode) && decide (c.settleCode ≤ 16)

/-- A configured slot passes; a slot with level 0 is examined no further (R59, R200; log 19). -/
def Store.slotOk (c : Store) (i : Nat) : Bool :=
  causeLevel (c.slotCause i) == 0
    || (c.slotLinger i != 0 && railsDefined (c.slotRails i)
        && !((i == 4 || i == 5) && causeMode (c.slotCause i) == .level))

/-- A wake timer's configuration passes (R200). -/
def Store.timerOk (c : Store) (t : Nat) : Bool :=
  c.timerMode t == 0 || (c.timerMode t == 1 && !(decide (1 ≤ c.timerCount t) && c.timerReload t == 0))

/-- The Causes section passes (R59, R200). -/
def Store.causesOk (c : Store) : Bool :=
  [0, 1, 2, 3, 4, 5, 6].all c.slotOk && [0, 1, 2, 3].all (fun k => c.edgeCode k != 3) && [0, 1].all c.timerOk

/-- A counted attendance row passes (R113, R200). -/
def rowOk (r : Row) : Bool :=
  r.low != 0 && r.high != 0 && decide (r.low ≤ r.high) && (r.rails == 1 || r.rails == 3)

/-- The Attendance section passes (R113, R200). -/
def Store.attendanceOk (c : Store) : Bool := decide (c.rowCount ≤ 8) && c.rows.all rowOk

/-- The Module section passes (R113, R151, R200). -/
def Store.moduleOk (c : Store) : Bool :=
  decide (1 ≤ c.helloCode) && decide (1 ≤ c.graceCode)
    && decide (1 ≤ c.quietDelayCode) && decide (c.quietDelayCode ≤ 25)
    && decide (1 ≤ c.loudLimit) && decide (c.loudLimit ≤ 7)
    && decide (1 ≤ c.quietIntervalCode) && decide ((byteAt c.modul 5).toNat ≤ 1)
    && decide (c.overrideLevel ≤ 7)

/-- The Drain section passes (R151, R153, R200). -/
def Store.drainOk (c : Store) : Bool :=
  decide (1 ≤ (halfAt c.drain 0).toNat) && decide (c.shift ≤ 15)
    && [2, 3, 4, 5, 6, 7].all (fun g => decide (c.balanceThreshold g ≤ c.balanceThreshold (Fin.ofNat 8 (g.val - 1))))
    && [2, 3, 4, 5, 6, 7].all (fun g => decide (c.rateThreshold (Fin.ofNat 8 (g.val - 1)) ≤ c.rateThreshold g))
    && decide (c.quietFloor ≤ 4095)
    && decide (1 ≤ c.awakeBatteryCode) && decide (1 ≤ c.restBatteryCode)

/-- The identifier of the first faulty section in the order of R188, and 0 when every section passes. -/
def Store.firstFaulty (c : Store) : Byte :=
  if !c.identityOk then 1
  else if !c.profileOk then 2
  else if !c.causesOk then 3
  else if !c.attendanceOk then 4
  else if !c.moduleOk then 5
  else if !c.drainOk then 6
  else 0

end Sys2Proof.Machine
end

