-- ==== Sys2Proof/Machine/Flags.lean ====
section
/-! DEFINITION. Flags: the event flags and their clearing marks (R193, R194), ATTN (R195), the objection and the
alarm drive values (R123, R124, R46, R133). -/

namespace Sys2Proof.Machine

/-- The event's bit in the event word (R203). -/
def Event.bit : Event → Nat
  | .causeExpired => 15
  | .causeCurtailed => 14
  | .episodeChange => 13
  | .parkRequest => 12
  | .parkCancelled => 11
  | .parkForced => 10
  | .moduleSilent => 9
  | .censusDone => 8
  | .feedCut => 7
  | .lineTrouble => 6
  | .isolated => 5
  | .gradeChange => 4
  | .accountExhausted => 3
  | .clockFault => 2
  | .batteryLow => 1
  | .alarmChange => 0

/-- The event word with this event's bit alone (R203). -/
def Event.mask (e : Event) : Half := BitVec.ofNat 16 (2 ^ e.bit)

/-- The event's flag is set (R193). -/
def State.eventSet (s : State) (e : Event) : Bool := s.pl.events.getLsbD e.bit

/-- Raises an event: its flag is set, and a clearing mark on it is removed (R193, R194). -/
def raiseEvent (e : Event) (s : State) : State :=
  s.withPl { s.pl with events := s.pl.events ||| e.mask, clearing := s.pl.clearing &&& ~~~e.mask }

/-- ATTN is asserted (R195): RAILA on, and a set flag whose bit is set in the stored event mask. -/
def State.attn (s : State) : Bool := s.mpc.raila && (s.pl.events &&& s.pl.store.eventMask) != 0

/-- The objection the MPC drives (R123). -/
def Mpc.objection (m : Mpc) : Bool := m.state == .powering || m.state == .parking

/-- StuckAwake (R124), taken while the configuration is fixed (log 22). -/
def State.stuckAwake (s : State) : Bool := s.fixed && decide (s.settings.loudLimit ≤ s.mpc.loud)

/-- FeedCut (R124). -/
def State.feedCut (s : State) : Bool := s.mpc.state == .cut

/-- The station's own alarm drive values, placed as in the alarm map (R30, R196). -/
def State.alarmDrive (s : State) : Alarms :=
  BitVec.ofBool s.stuckAwake ++ BitVec.ofBool s.feedCut ++ BitVec.ofBool s.mc.disagreement
    ++ BitVec.ofBool s.mu.clockFault

end Sys2Proof.Machine
end

