-- ==== Sys2Proof/Machine/Ops.lean ====
section
/-! DEFINITION. Shared operations: the gate of RST_N, the want set of the RE (R31, R33, R55) and the layouts of
rounds (R25 to R28). -/

namespace Sys2Proof.Machine

/-- An effect that takes place only while RST_N is high: while it is low no trigger, expiry, command, commit or
outcome reaches any block (R3, R60, R111, R150, R152; log 28). -/
def gated (s : State) (f : State → State) : Host.Outcome State Fault Refusal :=
  .next (if s.pins.rstN then f s else s)

/-! ## Membership tests -/

/-- Degraded or Isolated (spec 03, 3.1). -/
def Membership.isLocal : Membership → Bool
  | .degraded | .isolated => true
  | .unconfigured | .joining | .member => false

def State.isLocal (s : State) : Bool := s.mc.state.isLocal

/-! ## Round layouts -/

/-- The 3-bit code of a round type (R23). -/
def RoundType.code : RoundType → Nat
  | .join => 6
  | .status => 4
  | .census => 2
  | .rest => 1

/-- The round type a type result selects; `none` is an invalid type (R24). -/
def RoundType.ofCode (n : Nat) : Option RoundType :=
  if n = 6 then some .join else if n = 4 then some .status else if n = 2 then some .census
  else if n = 1 then some .rest else none

/-- The width of a field in bits (R196). -/
def Field.width : Field → Nat
  | .typ => 3
  | .hold => 7
  | .cls _ => 8
  | .pressure => 3
  | .alarm => 4
  | .notice => 2
  | .objection => 1
  | .number => 6
  | .claim => 1
  | .digestMax => 16
  | .digestMin => 16
  | .count => 16
  | .requester => 6
  | .level => 3
  | .candidate => 6

/-- The field is arbitrated, plainly or inverted (R18, R19, R25 to R28). -/
def Field.arbitrated : Field → Bool
  | .typ | .pressure | .number | .digestMax | .digestMin | .count | .requester | .candidate => true
  | .hold | .cls _ | .alarm | .notice | .objection | .claim | .level => false

/-- The number of round bits of a part of the layout. -/
def Seg.width : Seg → Nat
  | .gap => 1
  | .field f => f.width
  | .sep => 1
  | .confirm f => f.width
  | .void => 1

/-- The fields between the type field and the confirm field (R25 to R28). -/
def fieldsOf (t : RoundType) (newLevels : List Level) : List Field :=
  match t with
  | .status => .hold :: (newLevels.map Field.cls ++ [.pressure, .alarm, .notice, .objection])
  | .join => [.number, .claim, .digestMax, .digestMin, .count, .hold]
  | .census => [.requester, .level, .candidate]
  | .rest => [.hold, .objection]

/-- The layout of a round from the gap to the void bit; the confirm field repeats each field between type and
confirm (R24 to R28). -/
def layoutOf (rtype : Option RoundType) (newLevels : List Level) : List Seg :=
  let fields := match rtype with
    | some t => fieldsOf t newLevels
    | none => []
  [.gap, .field .typ, .sep] ++ fields.flatMap (fun f => [.field f, .sep])
    ++ fields.flatMap (fun f => [.confirm f, .sep]) ++ [.void]

/-- The number of round bits of a round, the start pulse left out (R25 to R28). -/
def roundBits (rtype : Option RoundType) (newLevels : List Level) : Nat :=
  (layoutOf rtype newLevels).foldl (fun n g => n + g.width) 0

/-- The part of the layout that runs. -/
def RoundRecord.current (r : RoundRecord) : Seg := (layoutOf r.rtype r.newLevels).getD r.seg .void

/-- The raw samples of a completed field, empty when it has not been sent. -/
def RoundRecord.raw (r : RoundRecord) (f : Field) : List Bool :=
  match r.results.find? (fun p => p.1 == f) with
  | some p => p.2
  | none => []

/-- The result of a completed field: its samples as a number, inverted for digest-min (R18 to R20). -/
def RoundRecord.result (r : RoundRecord) (f : Field) : Nat :=
  if f = .digestMin then natOfBits ((r.raw f).map (!·)) else natOfBits (r.raw f)

/-! ## Wants (R31) -/

/-- This station follows a round of type t past its covering point, the first bit of the field after the type
field, part 3 of every layout, once its values have been taken; in Closing no round is followed (R31, R33). -/
def State.pastCovering (s : State) (t : RoundType) : Bool :=
  match s.re.record with
  | some r => s.lif.state == .round && r.rtype == some t && !r.abandoned
      && (decide (3 < r.seg) || (r.seg == 3 && r.begun))
  | none => false

/-- Sets a want, renewed when it comes past the covering point (R31). -/
def Want.raise (w : Want) (renewed : Bool) : Want := { held := true, renewed := w.renewed || renewed }

/-- A want named for clearing at a commit: kept, its mark cleared, when it was renewed (R33). -/
def Want.settle (w : Want) : Want := { held := w.held && w.renewed, renewed := false }

/-- A Status want is raised (R31, R55): a Member keeps it, in local mode it makes a local decision due, and in
Joining and Unconfigured it is not kept. -/
def raiseStatus (s : State) : State :=
  match s.mc.state with
  | .member => s.withRe { s.re with status := s.re.status.raise (s.pastCovering .status) }
  | .degraded | .isolated => s.withMc { s.mc with decisionDue := true }
  | .unconfigured | .joining => s

/-- A Rest want is raised; only a Member keeps it (R31). -/
def raiseRest (s : State) : State :=
  if s.mc.state = .member then s.withRe { s.re with rest := s.re.rest.raise (s.pastCovering .rest) } else s

/-- A Census want is raised; only a Member keeps it (R31). -/
def raiseCensus (s : State) : State :=
  if s.mc.state = .member then s.withRe { s.re with census := s.re.census.raise (s.pastCovering .census) } else s

/-- A Join want is raised, unless one is set already (R31, R41, R49, R51). -/
def raiseJoin (s : State) : State :=
  if s.re.join.held then s else s.withRe { s.re with join := s.re.join.raise (s.pastCovering .join) }

/-- The Rest want is withdrawn with its mark (R103). -/
def withdrawRest (s : State) : State := s.withRe { s.re with rest := .clear }

/-- The Census want is withdrawn with its mark (R175, R177). -/
def withdrawCensus (s : State) : State := s.withRe { s.re with census := .clear }

/-- Every renewed mark is cleared, no flag is (R33, R36). -/
def Re.clearMarks (r : Re) : Re :=
  { r with join := { r.join with renewed := false }, status := { r.status with renewed := false },
           census := { r.census with renewed := false }, rest := { r.rest with renewed := false } }

/-- The highest-ranked want in the set (R23, R32). -/
def Re.highestWant (r : Re) : Option RoundType :=
  if r.join.held then some .join else if r.status.held then some .status
  else if r.census.held then some .census else if r.rest.held then some .rest else none

/-- The start offset in slow-clock periods (R32). -/
def startOffset (n : Station) : Nat := 8 * (12 + n.toNat % 8)

end Sys2Proof.Machine
end

