-- ==== Sys2Proof/Machine/Drain.lean ====
section
/-! DEFINITION. The Drain Account (spec 08): charges, the sample window and its filter, the balance, the grades, Refill. -/

namespace Sys2Proof.Machine

/-- The largest g from 1 to 7 that meets a condition, 0 when none does (R162, R163). -/
def highestGrade (p : Grade → Bool) : Grade := (levels.reverse.find? p).getD 0

/-- The balance in units of 2^-15 mC, floored at zero (R160). -/
def State.balance (s : State) : Nat := s.settings.allowance - s.da.spent

/-- The balance in whole millicoulombs (R160). -/
def State.balanceMc (s : State) : Nat := s.balance / Config.unitsPerMillicoulomb

/-- R162, compared exactly. -/
def State.balanceGradeNow (s : State) : Grade :=
  highestGrade fun g => decide (s.balance * 256 ≤ s.settings.allowance * s.settings.balanceThreshold g)

/-- R163: 0 while RAILA is off. -/
def State.rateGradeNow (s : State) : Grade :=
  if s.mpc.raila then highestGrade fun g => decide (s.settings.rateThreshold g ≤ s.da.filtered) else 0

/-- The balance grade, the rate grade and p computed anew, in that order (R164). -/
def regrade (s : State) : State :=
  let b := s.balanceGradeNow
  let r := s.rateGradeNow
  s.withDa { s.da with balanceGrade := b, rateGrade := r,
                       pressure := max (max b r) (if s.mu.batteryLow then 7 else 0) }

/-- A recomputation of the grades: a change of p raises GradeChange and a Status want (R164). -/
def recomputeGrades (s : State) : State :=
  let t := regrade s
  if t.da.pressure = s.da.pressure then t else raiseStatus (raiseEvent .gradeChange t)

/-- Adds a charge to spent, which holds at 2^48 - 1 (R159); AccountExhausted when it brings spent to the
allowance for the first time since the last Refill (R161). -/
def charge (units : Nat) (s : State) : State :=
  let spent := min (s.da.spent + units) Config.spentMax
  if s.settings.allowance ≤ spent && !s.da.exhausted then
    raiseEvent .accountExhausted (s.withDa { s.da with spent := spent, exhausted := true })
  else s.withDa { s.da with spent := spent }

/-- The weighted sum of the window, weight w0 on the newest code (R156). -/
def weightedSum (c : Store) (window : List (BitVec 12)) : Nat :=
  ([0, 1, 2, 3, 4, 5, 6, 7, 8, 9, 10, 11, 12, 13, 14, 15].map fun j => c.weight j * (window.getD j 0).toNat).sum

/-- The filter: the weighted sum shifted right by s, held at 65,535 with Saturated (R156). -/
def applyFilter (s : State) : State :=
  let v := weightedSum s.settings s.da.window / 2 ^ s.settings.shift
  s.withDa { s.da with filtered := min v 65535, saturated := decide (65535 < v) }

/-- The code enters the window at position 0 (R155). -/
def enterWindow (x : BitVec 12) (s : State) : State :=
  s.withDa { s.da with window := x :: s.da.window.take 15 }

/-- A sample entry: window, charge, filter, grades, in that order (R155 to R157); none in Unconfigured (R152). -/
def sampleEntry (x : BitVec 12) (s : State) : State :=
  if s.fixed then
    recomputeGrades (applyFilter (charge (x.toNat * s.settings.chargeFactor) (enterWindow x s)))
  else s

/-- A missed sample repeats the code at position 0 (R143, R155). -/
def missedSample (s : State) : State := sampleEntry (s.da.window.getD 0 0) s

/-- The charge at a quiet-check outcome: code q for each tick since the previous one, then the count is 0
(R158). -/
def quietCharge (q : Nat) (s : State) : State :=
  match s.da.quietTicks with
  | some n =>
    let t := charge (q * n) s
    recomputeGrades (t.withDa { t.da with quietTicks := some 0 })
  | none => s

/-- RAILA switches on: the sample phase starts and the quiet tick count stops without a charge (R154, R158). The
grades stand until the next event of R164's list (log 30). -/
def drainRailOn (s : State) : State :=
  s.withDa { s.da with phase := if s.fixed then some 0 else none, quietTicks := none }

/-- RAILA switches off: the window is cleared, f is 0, Saturated is no, the phase stops, the quiet tick count
starts at 0 and the grades are computed anew (R154, R155, R158, R164). -/
def drainRailOff (s : State) : State :=
  recomputeGrades (s.withDa { s.da with window := List.replicate 16 0, filtered := 0, saturated := false,
                                        phase := none, quietTicks := some 0 })

/-- A Refill: spent 0, exhausted clear, grades computed anew (R166, R167). -/
def refill (s : State) : State :=
  recomputeGrades (s.withDa { s.da with spent := 0, exhausted := false })

end Sys2Proof.Machine
end

