-- ==== Sys2Proof/Machine/Measurement.lean ====
section
/-! DEFINITION. The Measurement Unit (spec 07): the fast clock, the requests and the arbiter, the converter, aborts, and what the
rail switches do to it. The meanings of its commands stand in Converter.lean. -/

namespace Sys2Proof.Machine

/-! ## Demand and the clock -/

/-- A converter request is pending (R139). -/
def Mu.anyRequest (m : Mu) : Bool := m.reqBattery || m.reqQuiet || m.reqDrain

/-- The fast clock has a demand (R133). -/
def State.demand (s : State) : Bool :=
  s.mu.anyRequest || s.mu.inFlight.isSome || (s.pins.lcs && s.mpc.raila) || decide (0 < s.mu.linkHold)

/-- A new attempt: oscillator on, start time recorded, Settling (R134, R136). -/
def startAttempt (s : State) : State :=
  s.withMu { s.mu with clock := .settling, startTime := some s.time }

/-- The user's request flag. -/
def Mu.requested (m : Mu) : User → Bool
  | .battery => m.reqBattery
  | .quiet => m.reqQuiet
  | .drain => m.reqDrain

/-- Sets or clears the user's request flag. -/
def Mu.setRequest (m : Mu) (u : User) (b : Bool) : Mu :=
  match u with
  | .battery => { m with reqBattery := b }
  | .quiet => { m with reqQuiet := b }
  | .drain => { m with reqDrain := b }

/-- The pending request of highest priority: battery, quiet, drain (R140). -/
def Mu.highest (m : Mu) : Option User :=
  if m.reqBattery then some .battery else if m.reqQuiet then some .quiet
  else if m.reqDrain then some .drain else none

/-- A selection: with the clock Running and the converter idle the pending request of highest priority starts its
conversion and its flag is cleared (R140). -/
def select (s : State) : State :=
  if s.mu.clock = .running ∧ s.mu.inFlight = none then
    match s.mu.highest with
    | some u => s.withMu { s.mu.setRequest u false with inFlight := some u }
    | none => s
  else s

/-- Settling or Running with no demand left: the oscillator stops (R137). -/
def stopIdleClock (s : State) : State :=
  if (s.mu.clock = .settling ∨ s.mu.clock = .running) ∧ s.demand = false then
    s.withMu { s.mu with clock := .stopped, startTime := none }
  else s

/-- The next selection, or the stop of a clock with no demand (R145, R148). -/
def selectOrStop (s : State) : State := stopIdleClock (select s)

/-- Stopped with a demand: an attempt starts (R134). -/
def startOnDemand (s : State) : State :=
  if s.mu.clock = .stopped ∧ s.demand = true then startAttempt s else s

/-- The clock after a pending request was set: a request taken in Stopped or Failed starts an attempt, and one
taken while Running with the converter idle is selected (R134, R136, R140). -/
def serveRequest (s : State) : State :=
  match s.mu.clock with
  | .stopped | .failed => startAttempt s
  | .settling => s
  | .running => select s

/-- A request of one user: merged when one is pending, and a merged drain request is a missed sample (R139, R143). -/
def request (u : User) (s : State) : State :=
  if s.mu.requested u then
    if u = .drain then missedSample s else s
  else serveRequest (s.withMu (s.mu.setRequest u true))

/-! ## The converter (R138) -/

/-- The channel of a user's conversion. -/
def User.channel : User → Channel
  | .battery => .vbat
  | .quiet => .isnsL
  | .drain => .isnsH

/-- One LSB in the channel's unit (log 34): 5 mV in microvolts, 1.953125 uA and 0.5 mA in picoamperes. -/
def Channel.lsb : Channel → Nat
  | .vbat => 5000
  | .isnsL => 1953125
  | .isnsH => 500000000

/-- The result code of an input, in the channel's unit: 4,095 from full scale on and 0 at or below zero. A step's own
input gives that step; `up` takes the upper of the two steps that an input stands between. -/
def Channel.code (c : Channel) (input : Int) (up : Bool) : BitVec 12 :=
  let n := input.toNat
  if 4095 * c.lsb ≤ n then 4095 else BitVec.ofNat 12 (n / c.lsb + if n % c.lsb = 0 then 0 else up.toNat)

/-! ## Aborts -/

/-- The user's request and its conversion in flight end without a result (R148). -/
def Mu.abort (m : Mu) (u : User) : Mu :=
  { m.setRequest u false with inFlight := if m.inFlight = some u then none else m.inFlight }

/-- RAILA switches on: the quiet check is aborted and its interval timer stops; a held LCS_N is now a demand
(R133, R148). -/
def measureRailOn (s : State) : State :=
  startOnDemand (selectOrStop (s.withMu { s.mu.abort .quiet with quietTimer := none }))

/-- RAILA switches off: the drain sample is aborted and the link hold is 0 (R133, R148). -/
def measureRailOff (s : State) : State :=
  selectOrStop (s.withMu { s.mu.abort .drain with linkHold := 0 })

/-- The ClockFault alarm drive value takes a value; a change raises a Status want (R135, R136). -/
def setClockFault (b : Bool) (s : State) : State :=
  if s.mu.clockFault = b then s else raiseStatus (s.withMu { s.mu with clockFault := b })

/-- The link hears that the fast clock has failed: an untaken command is refused Busy-clock (R183; log 10). -/
def linkClockFailed (s : State) : State :=
  if s.pl.txn = some .opened ∨ s.pl.txn = some .arguments then s.withPl { s.pl with txn := some (.refused 0xB2) } else s

/-- The fast clock fails: Failed, every request and the conversion aborted, ClockFault raised, and a drain sample
that was pending or in flight is a missed sample (R135, R149). -/
def clockFails (s : State) : State :=
  let lost := s.mu.reqDrain || s.mu.inFlight == some .drain
  let t := s.withMu { s.mu with clock := .failed, startTime := none, reqBattery := false, reqQuiet := false,
                                reqDrain := false, inFlight := none }
  let t := linkClockFailed (raiseEvent .clockFault (setClockFault true t))
  if lost then missedSample t else t

/-! ## Schedules -/

/-- The battery interval in ticks for a network state (R141). -/
def Store.batteryInterval (c : Store) : NetState → Nat
  | .rest => 256 * c.restBatteryCode
  | .awake | .settling => 64 * c.awakeBatteryCode

/-- The quiet interval in ticks at a network grade (R142). -/
def Store.quietInterval (c : Store) (g : Grade) : Nat :=
  if g.val < 4 then 64 * c.quietIntervalCode else 128 * c.quietIntervalCode

/-- A move of the network state between Rest and the other two reduces a longer battery count to the new interval
(R141). -/
def batteryOnNetChange (old new : NetState) (s : State) : State :=
  if (old == .rest) == (new == .rest) then s
  else s.withMu { s.mu with batteryTimer := s.mu.batteryTimer.map fun n => min n (s.settings.batteryInterval new) }

end Sys2Proof.Machine
end

