-- ==== Sys2Proof/Machine/Episodes.lean ====
section
/-! DEFINITION. The Episode View (spec 05): the table, suspension and the floor, committed Status and Rest rounds,
admission, the emptyings, and the network state. -/

namespace Sys2Proof.Machine

/-! ## Derived values (R84) -/

/-- E, the top Exclusive level of a table, 0 when it holds none. -/
def topExclusive (t : List Entry) : Level :=
  t.foldl (fun e x => if x.exclusive then max e x.level else e) 0

/-- F_G, the austerity floor of the network grade. -/
def State.austerity (s : State) : Level := s.settings.floorOf s.ev.grade

/-- E of the station's table. -/
def State.topLevel (s : State) : Level := topExclusive s.ev.table

/-- The floor, the greater of E and F_G. -/
def State.floor (s : State) : Level := max s.topLevel s.austerity

/-- An entry is suspended exactly when its level is below E. -/
def resuspend (t : List Entry) : List Entry :=
  t.map fun x => { x with suspended := decide (x.level < topExclusive t) }

/-- The level has an entry on the table. -/
def onTable (t : List Entry) (l : Level) : Bool := t.any fun x => x.level == l

/-- The level has an entry in effect, one that is not suspended. -/
def inEffect (t : List Entry) (l : Level) : Bool := t.any fun x => x.level == l && !x.suspended

/-! ## Table updates (R82, R86, R87, R95, R96) -/

/-- The table that holds exactly the levels of a hold map, ascending: a level that has an entry keeps it, and a
new level gets the entry `fresh` gives. -/
def tableFor (h : HoldMap) (fresh : Level → Entry) (t : List Entry) : List Entry :=
  (levels.filter (holdHas h)).map fun l => (t.find? (fun x => x.level == l)).getD (fresh l)

/-- Own is yes exactly at the levels this station drove (R88). -/
def markOwn (drove : HoldMap) (t : List Entry) : List Entry :=
  t.map fun x => { x with own := holdHas drove x.level }

/-- An entry added at a Status commit or decision (R83, R87, R108). -/
def freshEntry (c : Store) (opened : Option Half) (classes : Level → Classes) (l : Level) : Entry :=
  { level := l, exclusive := c.exclusive l, opened := opened, classes := some (classes l), suspended := false,
    own := false, learned := false }

/-- An entry learned at admission or added at a Rest commit (R95, R96). -/
def learnedEntry (c : Store) (l : Level) : Entry :=
  { level := l, exclusive := c.exclusive l, opened := none, classes := none, suspended := false,
    own := false, learned := true }

/-- What EpisodeChange watches: the levels and their suspended marks (R93). -/
def tableShape (t : List Entry) : List (Level × Bool) := t.map fun x => (x.level, x.suspended)

/-- The table takes a new value; EpisodeChange is raised when an entry was added or removed or a suspended mark
changed (R93). -/
def setTable (t : List Entry) (s : State) : State :=
  let u := s.withEv { s.ev with table := t }
  if tableShape t = tableShape s.ev.table then u else raiseEvent .episodeChange u

/-- The alarm map takes a new value; AlarmChange is raised when it differs (R91). -/
def setAlarm (a : Alarms) (s : State) : State :=
  let u := s.withEv { s.ev with alarm := a }
  if a = s.ev.alarm then u else raiseEvent .alarmChange u

/-! ## The network state (R99 to R105) -/

/-- The heartbeat interval in ticks (R105). -/
def Store.heartbeatInterval (c : Store) (g : Grade) : Nat :=
  if g.val < 4 then 32 * c.heartbeatCode else 64 * c.heartbeatCode

/-- The settle time in ticks (R102). -/
def Store.settleTicks (c : Store) : Nat := 32 * c.settleCode

/-- The network state after a Status commit (R100): `active` is a hold map not empty or an objection asserted. -/
def netAfterStatus (active : Bool) : NetState → NetState
  | .rest => if active then .awake else .rest
  | .awake => if active then .awake else .settling
  | .settling => if active then .awake else .settling

/-- The network state after a Rest commit (R101). -/
def netAfterRest (active : Bool) : NetState := if active then .awake else .rest

/-- The network state moves: the heartbeat runs in Awake for a Member and is loaded anew at each commit that
leaves the state Awake (R104); the settle timer is loaded at the move from Awake to Settling, runs on in
Settling and stops outside it (R100 to R102); a move from Settling to Awake withdraws the Rest want (R103);
the battery timer follows R141. -/
def setNet (new : NetState) (s : State) : State :=
  let old := s.ev.net
  let beat := if new = .awake ∧ s.isLocal = false then some (s.settings.heartbeatInterval s.ev.grade) else none
  let settle := if new = .settling then
      (if old = .settling then s.ev.settle else some s.settings.settleTicks) else none
  let t := s.withEv { s.ev with net := new, heartbeat := beat, settle := settle }
  let t := if old = .settling ∧ new = .awake then withdrawRest t else t
  batteryOnNetChange old new t

/-! ## Applications -/

/-- The field values of a Status commit or of a local decision of the Status kind (R34, R54). -/
structure StatusValues where
  hold : HoldMap
  classes : Level → Classes
  pressure : Grade
  alarm : Alarms
  refill : Bool
  restore : Bool
  objection : Bool

/-- The EV applies a committed Status round (R86 to R93, R100) or a local decision of the Status kind (R108). -/
def evStatus (v : StatusValues) (drove : HoldMap) (opened : Option Half) (s : State) : State :=
  let t := resuspend (markOwn drove (tableFor v.hold (freshEntry s.settings opened v.classes) s.ev.table))
  let s := s.withEv { s.ev with grade := v.pressure }
  let s := setNet (netAfterStatus (v.hold != 0 || v.objection) s.ev.net) s
  setTable t (setAlarm v.alarm s)

/-- The EV applies a committed Rest round (R95, R101) or a local decision of the Rest kind (R109). -/
def evRest (hold drove : HoldMap) (objection : Bool) (s : State) : State :=
  let t := resuspend (markOwn drove (tableFor hold (learnedEntry s.settings) s.ev.table))
  setTable t (setNet (netAfterRest (hold != 0 || objection)) s)

/-- The EV at the Join commit that admits the station (R96, R97). -/
def evAdmit (hold : HoldMap) (s : State) : State :=
  let t := resuspend (tableFor hold (learnedEntry s.settings) [])
  let s := s.withEv { s.ev with grade := s.da.pressure }
  let s := setNet (netAfterRest (hold != 0)) s
  setTable t (setAlarm 0 s)

/-- The EV at entry to Joining (R85): everything to its start values, EpisodeChange when the table was not empty. -/
def evJoining (s : State) : State :=
  let t := setTable [] s
  batteryOnNetChange s.ev.net .rest (t.withEv .cold)

/-- The EV at entry to local mode (R107): table emptied, heartbeat stopped, the rest kept. -/
def evLocalEntry (s : State) : State :=
  let t := setTable [] s
  t.withEv { t.ev with heartbeat := none }

end Sys2Proof.Machine
end

