-- ==== Sys2Proof/Machine/Power.lean ====
section
/-! DEFINITION. The Module Power Controller (spec 06): need, the evaluation, the moves of the module state and what
each switch of RAILA reports. -/

namespace Sys2Proof.Machine

/-! ## Need (R114) -/

/-- Held or Lingering (spec 04, 4.6). -/
def Cause.holding (c : Cause) : Bool := c.state == .held || c.state == .lingering

/-- The row matches the entry: its level is in the row's range, and its classes are absent or share one with the
row's mask. -/
def Row.matchesEntry (r : Row) (x : Entry) : Bool :=
  decide (r.low ≤ x.level) && decide (x.level ≤ r.high)
    && (match x.classes with
      | none => true
      | some k => (k &&& r.mask) != 0)

/-- The rails of the rows that match an entry in effect. -/
def rowNeed (c : Store) (t : List Entry) : Need :=
  c.rows.foldl (fun n r => if t.any (fun x => !x.suspended && r.matchesEntry x) then n.union (railsNeed r.rails) else n) .empty

/-- The self rails of the holding causes whose level is in effect. -/
def selfNeed (slots : List Cause) (t : List Entry) : Need :=
  slots.foldl (fun n c => if c.holding && inEffect t c.level then n.union (railsNeed c.rails) else n) .empty

/-- The module's need. -/
def State.needNow (s : State) : Need := (rowNeed s.settings s.ev.table).union (selfNeed s.ct.slots s.ev.table)

/-- The override holds: a level of 1 to 7, and a matched entry in effect at or above it (R126). -/
def State.overrides (s : State) : Bool :=
  decide (1 ≤ s.settings.overrideLevel)
    && s.ev.table.any fun x => !x.suspended && decide (s.settings.overrideLevel ≤ x.level.val)
      && s.settings.rows.any fun r => r.matchesEntry x

/-! ## The switches (R112) -/

/-- The module state and need with the outputs of the table of section 6.1. -/
def Mpc.moveTo (m : Mpc) (st : ModuleState) (need : Need) : Mpc :=
  { m with state := st, need := need, feed := st != .cut, raila := st == .powering || st == .on || st == .parking,
           railb := st == .on && need == .ab }

/-- What a switch of RAILA to on reports to the MU and the DA (R112). -/
def railOn (s : State) : State := measureRailOn (drainRailOn s)

/-- The link ends when RAILA switches off: the transaction ends and every clearing mark is removed (R181, R194). -/
def linkRailOff (s : State) : State := s.withPl { s.pl with txn := none, clearing := 0 }

/-- What a switch of RAILA to off reports to the PL, the MU and the DA (R112, R181). -/
def railOff (s : State) : State := drainRailOff (measureRailOff (linkRailOff s))

/-! ## Moves -/

/-- A timer of N units of 0.1 s, in slow-clock periods (R111). -/
def tenths (n : Nat) : Option Nat := some (n * Config.tenthPeriods)

/-- To Powering from Off or Cut (R116, R126): RAILA on, hello timer started, quiet delay stopped, objection
asserted with its Status want. -/
def enterPowering (need : Need) (s : State) : State :=
  raiseStatus (railOn (s.withMpc { s.mpc.moveTo .powering need with hello := tenths s.settings.helloCode, quietDelay := none }))

/-- On to Parking (R119): RAILB off, grace started, objection asserted, ParkRequest. -/
def enterParking (s : State) : State :=
  raiseStatus (raiseEvent .parkRequest
    (s.withMpc { s.mpc.moveTo .parking .empty with grace := tenths s.settings.graceCode }))

/-- An evaluation in On (R119). -/
def evaluateOn (need : Need) (s : State) : State :=
  if need = .empty then enterParking s else s.withMpc (s.mpc.moveTo .on need)

/-- Parking back to On (R122): grace stopped, objection released, ParkCancelled. -/
def cancelPark (need : Need) (s : State) : State :=
  raiseStatus (raiseEvent .parkCancelled (s.withMpc { s.mpc.moveTo .on need with grace := none }))

/-- Cut to Powering by the override (R126): the loud count is 0, and FeedCut, StuckAwake and the objection change. -/
def overrideCut (need : Need) (s : State) : State := enterPowering need (s.withMpc { s.mpc with loud := 0 })

/-- Records a need that changes no state (R115). -/
def recordNeed (need : Need) (s : State) : State := s.withMpc { s.mpc with need := need }

/-- The evaluation of need (R115); none while frozen and in Unconfigured. -/
def evaluateNeed (s : State) : State :=
  if s.mpc.frozen || !s.fixed then s
  else
    let need := s.needNow
    match s.mpc.state with
    | .off => if need = .empty then recordNeed need s else enterPowering need s
    | .powering => recordNeed need s
    | .on => evaluateOn need s
    | .parking => if need = .empty then recordNeed need s else cancelPark need s
    | .cut => if s.overrides then overrideCut need s else recordNeed need s

/-- Powering to On (R118): hello stopped, objection released, need evaluated as it stands. -/
def powerUpDone (s : State) : State :=
  evaluateNeed (raiseStatus (s.withMpc { s.mpc.moveTo .on s.mpc.need with hello := none }))

/-- Parking to Off (R121): RAILA off with its reports, quiet delay started, objection released. -/
def parkDone (s : State) : State :=
  raiseStatus (railOff (s.withMpc { s.mpc.moveTo .off s.mpc.need with
    grace := none, quietDelay := tenths s.settings.quietDelayCode }))

/-- Cut to Off (R127, R128): FEED on, loud count 0, FeedCut and StuckAwake released. -/
def leaveCut (s : State) : State :=
  raiseStatus (s.withMpc { s.mpc.moveTo .off s.mpc.need with loud := 0 })

/-- A Restore acts on the module (R127): Cut to Off, and need evaluated at once. -/
def restoreModule (s : State) : State :=
  if s.mpc.state = .cut then evaluateNeed (leaveCut s) else s

/-- The freeze ends (R131). -/
def unfreeze (s : State) : State := s.withMpc { s.mpc with frozen := false }

/-- The loud count takes a value; a change of StuckAwake raises a Status want (R124, R125). -/
def setLoud (n : Nat) (s : State) : State :=
  let t := s.withMpc { s.mpc with loud := n }
  if t.stuckAwake = s.stuckAwake then t else raiseStatus t

/-- The hard cut (R126): Off to Cut, FEED off, FeedCut asserted and raised. -/
def enterCut (s : State) : State :=
  raiseStatus (raiseEvent .feedCut (s.withMpc (s.mpc.moveTo .cut s.mpc.need)))

/-- A loud outcome (R125, R126; log 29). -/
def loudOutcome (s : State) : State :=
  let old := s.mpc.loud
  let new := min (old + 1) 7
  let t := setLoud new s
  if s.settings.cutEnabled && s.mpc.state == .off && decide (old < s.settings.loudLimit)
      && decide (s.settings.loudLimit ≤ new) then enterCut t else t

/-- A quiet outcome (R125). -/
def quietOutcome (s : State) : State := setLoud 0 s

end Sys2Proof.Machine
end

