-- ==== Sys2Proof/Machine/Causes.lean ====
section
/-! DEFINITION. The Cause Table (spec 04): triggers, sources, expiries, offering, the commit, curtailment and the
alarm slot; and the meanings of its event commands. -/

namespace Sys2Proof.Machine

/-! ## Slots -/

/-- The entry of a slot. -/
def State.slot (s : State) (i : Nat) : Cause := s.ct.slots.getD i .disabled

/-- A slot's entry takes a new value. -/
def setSlot (i : Nat) (c : Cause) (s : State) : State := s.withCt { s.ct with slots := s.ct.slots.set i c }

/-- Linger in ticks (R58). -/
def Cause.lingerTicks (c : Cause) : Nat := 4 * c.linger.toNat

/-- Patience in ticks, 0 when there is no limit (R58). -/
def Cause.patienceTicks (c : Cause) : Nat := 16 * c.patience.toNat

/-- The cause goes to Idle: countdown 0, marks clear, opened round absent (R67, R69, R71, R76). -/
def Cause.toIdle (c : Cause) : Cause :=
  { c with state := .idle, offered := false, merged := false, expiryHeld := false, countdown := 0, opened := none }

/-- The cause goes to Pending with fresh patience (R68, R80). -/
def Cause.toPending (c : Cause) : Cause :=
  { c with state := .pending, offered := false, merged := false, expiryHeld := false,
           countdown := c.patienceTicks, opened := none }

/-- The cause goes to Lingering with its linger loaded (R70, R74). -/
def Cause.toLingering (c : Cause) : Cause := { c with state := .lingering, countdown := c.lingerTicks }

/-- The cause has self rails (R79). -/
def Cause.hasRails (c : Cause) : Bool := railsNeed c.rails != .empty

/-! ## Sources (R62, R65, R66) -/

/-- The source of a slot is active: a sense input at its active level, a masked alarm asserted, a posted Level-mode
cause until it returns to Idle; a wake timer has no source that stays active (R59). -/
def State.sourceActive (s : State) (i : Nat) : Bool :=
  if i < 4 then (s.ct.sense.getD i ⟨false, 0⟩).filtered == s.settings.activeHigh i
  else if i < 6 then false
  else if i = 6 then (s.ev.alarm &&& s.settings.alarmMask) != 0
  else true

/-! ## Triggers (R68) -/

/-- A trigger of a slot. -/
def trigger (i : Nat) (s : State) : State :=
  let c := s.slot i
  match c.state with
  | .disabled => s
  | .idle => raiseStatus (setSlot i c.toPending s)
  | .pending => setSlot i { c with merged := true } s
  | .held => s
  | .lingering => if c.mode = .momentary then setSlot i { c with countdown := c.lingerTicks } s else s

/-! ## Reports to the MPC (R79) -/

/-- A change that enters or leaves a holding state, or moves between Held and Lingering, is reported when the
entry has self rails. -/
def reportCause (c : Cause) (s : State) : State := if c.hasRails then evaluateNeed s else s

/-- A Level-mode holding cause after its source has been read (R70). -/
def Cause.follow (c : Cause) (active : Bool) : Cause :=
  if c.mode = .level then
    match c.state, active with
    | .held, false => c.toLingering
    | .lingering, true => { c with state := .held, countdown := 0 }
    | _, _ => c
  else c

/-- A sense slot follows its source and reports the change (R70, R79). -/
def followSource (i : Nat) (s : State) : State :=
  let c := s.slot i
  let d := c.follow (s.sourceActive i)
  if d = c then s else reportCause c (setSlot i d s)

/-! ## Acceptance and offering (R72, R73) -/

/-- A level is acceptable (R72). -/
def State.acceptable (s : State) (l : Level) : Bool :=
  decide (s.floor < l) || (l == s.topLevel && decide (s.austerity < s.topLevel))

/-- A Pending cause that is not offered and is acceptable. -/
def State.offerable (s : State) (c : Cause) : Bool := c.state == .pending && !c.offered && s.acceptable c.level

/-- The class set of the causes that satisfy p at a level. -/
def classesAt (slots : List Cause) (p : Cause → Bool) (l : Level) : Classes :=
  slots.foldl (fun k c => if p c && c.level == l then k ||| classSet c.cls else k) 0

/-- The CT offers its acceptable Pending causes and writes the offer record (R73, R81). -/
def offerCauses (s : State) : State :=
  let slots := s.ct.slots.map fun c => if s.offerable c then { c with offered := true } else c
  s.withCt { s.ct with
    slots := slots
    offers := (levels.filter fun l => slots.any fun c => c.offered && c.level == l).map
      fun l => (l, classesAt slots (fun c => c.offered) l) }

/-- The offer record's class set at a level, 0 when it holds none (R73). -/
def Ct.offerClasses (t : Ct) (l : Level) : Classes :=
  match t.offers.find? (fun p => p.1 == l) with
  | some p => p.2
  | none => 0

/-- The levels of the holding causes (R30, R73). -/
def Ct.holdingLevels (t : Ct) : HoldMap := holdOf fun l => t.slots.any fun c => c.holding && c.level == l

/-- The levels of the holding causes and of the causes offered now (R73). -/
def Ct.drivenLevels (t : Ct) : HoldMap :=
  holdOf fun l => t.slots.any fun c => (c.holding || c.offered) && c.level == l

/-! ## The end of a round (R74 to R77) -/

/-- An offered cause becomes a holding cause (R74, step 1). -/
def Cause.accept (c : Cause) (opened : Option Half) (active : Bool) : Cause :=
  let d := { c with offered := false, merged := false, expiryHeld := false, countdown := 0, opened := opened }
  if c.mode = .level ∧ active = true then { d with state := .held } else d.toLingering

/-- Step 1 of R74: every offered cause becomes a holding cause, and the offer record is discarded. -/
def acceptOffers (opened : Option Half) (s : State) : State :=
  s.withCt { s.ct with
    offers := []
    slots := s.ct.slots.mapIdx fun i c => if c.offered then c.accept opened (s.sourceActive i) else c }

/-- The cause is curtailed at the present grade (R76). -/
def State.curtails (s : State) (c : Cause) : Bool := c.holding && decide (c.level ≤ s.austerity)

/-- Step 2 of R74: curtailment (R76). -/
def curtail (s : State) : State :=
  if s.ct.slots.any s.curtails then
    raiseStatus (raiseEvent .causeCurtailed
      (s.withCt { s.ct with slots := s.ct.slots.map fun c => if s.curtails c then c.toIdle else c }))
  else s

/-- Step 3 of R74: a Status want for Pending causes that are acceptable now (R77). -/
def wantAcceptable (s : State) : State := if s.ct.slots.any s.offerable then raiseStatus s else s

/-- Step 4 of R74: the alarm slot follows its source, and a gained masked alarm bit triggers it (R65, R70; log 17). -/
def alarmSlot (before : Alarms) (s : State) : State :=
  let s := setSlot 6 ((s.slot 6).follow (s.sourceActive 6)) s
  if (s.ev.alarm &&& ~~~before &&& s.settings.alarmMask) != 0 then trigger 6 s else s

/-- The CT applies a Status commit or a local decision of the Status kind, in the order of R74 and R81. -/
def ctStatus (opened : Option Half) (alarmBefore : Alarms) (s : State) : State :=
  alarmSlot alarmBefore (wantAcceptable (curtail (acceptOffers opened s)))

/-- An offered cause of a round that did not commit (R75). -/
def Cause.unoffer (c : Cause) : Cause :=
  if c.offered then (if c.expiryHeld then c.toIdle else { c with offered := false }) else c

/-- Offered causes return to plain Pending, held expiries are applied, the offer record is discarded (R75). -/
def returnOffers (s : State) : State :=
  let t := s.withCt { s.ct with slots := s.ct.slots.map Cause.unoffer, offers := [] }
  if s.ct.slots.any (fun c => c.offered && c.expiryHeld) then raiseEvent .causeExpired t else t

/-! ## Membership changes (R80) -/

/-- Every opened round becomes absent (R80). -/
def dropOpened (s : State) : State := s.withCt { s.ct with slots := s.ct.slots.map fun c => { c with opened := none } }

/-- The CT at admission (R43, R80): holding causes at levels the Join hold map lacks return to Pending, the others
keep their states with the opened round absent; then R77's check. -/
def ctAdmit (hold : HoldMap) (s : State) : State :=
  wantAcceptable (s.withCt { s.ct with slots := s.ct.slots.map fun c =>
    if c.holding then (if holdHas hold c.level then { c with opened := none } else c.toPending) else c })

/-- A slot of 0 to 6 as the configuration gives it (R59). -/
def Store.slotEntry (c : Store) (i : Nat) : Cause :=
  { Cause.disabled with
    level := causeLevel (c.slotCause i), cls := causeClass (c.slotCause i), mode := causeMode (c.slotCause i),
    linger := c.slotLinger i, patience := c.slotPatience i, rails := c.slotRails i,
    state := if causeLevel (c.slotCause i) = 0 then .disabled else .idle }

/-- The sixteen slots at Fix and at a warm start (R59, R60). -/
def Store.loadSlots (c : Store) : List Cause :=
  [0, 1, 2, 3, 4, 5, 6].map c.slotEntry ++ List.replicate 9 .disabled

/-- A wake timer armed from the configuration (R64). -/
def Store.loadTimer (c : Store) (t : Nat) : WakeTimer :=
  { count := c.timerCount t, reload := c.timerReload t, periodic := c.timerMode t == 1,
    running := c.timerCount t != 0 }

/-- The CT at a successful Fix (R59). -/
def loadCauses (s : State) : State :=
  s.withCt { s.ct with slots := s.settings.loadSlots, offers := [],
                       timers := [s.settings.loadTimer 0, s.settings.loadTimer 1] }

/-! ## Expiries as effects -/

/-- Patience runs out (R69). -/
def patienceRunsOut (i : Nat) (s : State) : State :=
  let c := s.slot i
  if c.state = .pending ∧ c.patience ≠ 0 then
    if c.offered then setSlot i { c with countdown := 0, expiryHeld := true } s
    else raiseEvent .causeExpired (setSlot i c.toIdle s)
  else s

/-- Linger runs out (R71, R79). -/
def lingerRunsOut (i : Nat) (s : State) : State :=
  let c := s.slot i
  if c.state = .lingering then reportCause c (raiseStatus (setSlot i c.toIdle s)) else s

/-- A wake timer's entry. -/
def State.timer (s : State) (t : Nat) : WakeTimer := s.ct.timers.getD t .stopped

/-- A wake timer's entry takes a new value. -/
def setTimer (t : Nat) (w : WakeTimer) (s : State) : State := s.withCt { s.ct with timers := s.ct.timers.set t w }

/-- A running wake timer reaches 0 (R63). -/
def wakeTimerRunsOut (t : Nat) (s : State) : State :=
  let w := s.timer t
  if w.running then
    trigger (4 + t)
      (setTimer t (if w.periodic then { w with count := w.reload } else { w with count := 0, running := false }) s)
  else s

/-- The filtered level of an input changes (R61, R62, R70): a matching edge triggers the slot of the same number,
and a Level-mode cause follows its source. -/
def filteredEdge (k : Nat) (level : Bool) (s : State) : State :=
  if (s.ct.sense.getD k ⟨false, 0⟩).filtered = level then s
  else
    let t := s.withCt { s.ct with sense := s.ct.sense.set k ⟨level, 0⟩ }
    let t := if s.settings.edgeMatches k level then trigger k t else t
    followSource k t

/-! ## Meanings -/

/-- SENSE_FILTERED_EDGE (R61, R62, R68, R70): the raw level that the filter followed is now the pin's level. -/
def execSenseFilteredEdge (input : Fin 4) (level : Bool) (s : State) : Host.Outcome State Fault Refusal :=
  gated s fun s => filteredEdge input.val level (s.withPins { s.pins with sns := s.pins.sns.set input.val level })

/-- WAKE_TIMER_EXPIRY (R63). -/
def execWakeTimerExpiry (timer : Fin 2) (s : State) : Host.Outcome State Fault Refusal :=
  gated s (wakeTimerRunsOut timer.val)

/-- PATIENCE_EXPIRY (R69). -/
def execPatienceExpiry (slot : Fin 16) (s : State) : Host.Outcome State Fault Refusal :=
  gated s (patienceRunsOut slot.val)

/-- LINGER_EXPIRY (R71). -/
def execLingerExpiry (slot : Fin 16) (s : State) : Host.Outcome State Fault Refusal :=
  gated s (lingerRunsOut slot.val)

end Sys2Proof.Machine
end

