-- ==== Sys2Proof/Machine/Census.lean ====
section
/-! DEFINITION. The Census Unit (spec 09): the exclusion record, the requester's steps, yielding, waiting, and the
meanings of its event commands. -/

namespace Sys2Proof.Machine

/-- Another census is active: the exclusion record is present and names another requester (R171). -/
def State.otherCensus (s : State) : Bool :=
  match s.cu.exclusion with
  | some e => e.requester != s.mc.number
  | none => false

/-- The census enters Running: the reference is taken from the table and a Census want is raised (R171, R172). -/
def censusRun (s : State) : State :=
  raiseCensus (s.withCu { s.cu with state := .running, reference := onTable s.ev.table s.cu.level })

/-- A Waiting census enters Running once no other census is active and the hold-off is 0 (R172). -/
def censusRecheck (s : State) : State :=
  if s.cu.state = .waiting ∧ s.otherCensus = false ∧ s.cu.holdOff = 0 then censusRun s else s

/-- The level the winning requester drives (R173). -/
def Cu.levelDriven (c : Cu) : Level := if c.state = .running then c.level else 0

/-- The station is a candidate for a requester and level just sampled (R173). -/
def State.candidate (s : State) (requester : Station) (level : Level) : Bool :=
  level != 0 && s.ev.table.any (fun x => x.level == level && x.own)
    && !(match s.cu.exclusion with
      | some e => e.requester == requester && e.level == level && e.found
      | none => false)

/-- The exclusion record after a committed Census round, the answering side (R174). -/
def Cu.answered (c : Cu) (number requester : Station) (level : Level) (candidate : Station) : Option Exclusion :=
  if level = 0 then
    match c.exclusion with
    | some e => if e.requester = requester then none else some e
    | none => none
  else if candidate = 0 then none
  else
    match c.exclusion with
    | some e =>
      if e.requester = requester ∧ e.level = level then
        some { e with age := Config.twoSeconds, found := e.found || number == candidate }
      else some { requester := requester, level := level, found := number == candidate, age := Config.twoSeconds }
    | none => some { requester := requester, level := level, found := number == candidate, age := Config.twoSeconds }

/-- The candidate is at or above the last list entry (R175). -/
def Cu.outOfOrder (c : Cu) (candidate : Station) : Bool :=
  match c.list.getLast? with
  | some l => decide (l ≤ candidate)
  | none => false

/-- The winning requester's side of a committed Census round (R175). -/
def censusStep (level : Level) (candidate : Station) (s : State) : State :=
  let c := s.cu
  if c.closeOwed then
    if level = 0 then s.withCu { c with closeOwed := false } else raiseCensus s
  else if c.state = .running then
    if candidate = 0 then
      raiseEvent .censusDone (withdrawCensus (s.withCu { c with state := .complete }))
    else if c.outOfOrder candidate then raiseCensus (s.withCu { c with disturbed := true })
    else if Config.listMax ≤ c.list.length then
      raiseCensus (raiseEvent .censusDone
        (s.withCu { c with truncated := true, state := .complete, closeOwed := true }))
    else raiseCensus (s.withCu { c with list := c.list ++ [candidate] })
  else s

/-- A Running census of this station at a committed round of another requester (R177). -/
def censusYield (level : Level) (candidate : Station) (s : State) : State :=
  let c := s.cu
  if c.state = .running ∧ level ≠ 0 then
    if candidate = 0 then
      s.withCu { c with list := [], disturbed := false, reference := onTable s.ev.table c.level }
    else withdrawCensus (s.withCu { c with list := [], disturbed := false, state := .waiting })
  else s

/-- The CU at a committed Census round: the answering side, then this station's own census, then a Waiting
census rechecks (R172, R174, R175, R177). -/
def cuCensus (winner : Bool) (requester : Station) (level : Level) (candidate : Station) (s : State) : State :=
  let s := s.withCu { s.cu with exclusion := s.cu.answered s.mc.number requester level candidate }
  censusRecheck (if winner then censusStep level candidate s else censusYield level candidate s)

/-- The CU at a Status commit: the level's bit is compared with the reference (R176). -/
def cuStatus (hold : HoldMap) (s : State) : State :=
  let b := holdHas hold s.cu.level
  if s.cu.state = .running ∧ b ≠ s.cu.reference then s.withCu { s.cu with disturbed := true, reference := b } else s

/-- The CU when the station leaves Member by a line fault (R180). -/
def cuLeaveMember (s : State) : State :=
  s.withCu { s.cu with
    exclusion := none
    closeOwed := false
    state := if s.cu.state = .running ∨ s.cu.state = .waiting then .abandoned else s.cu.state }

/-- The exclusion record ages out; a Running census that it named is Disturbed (R170, R172, R176). -/
def exclusionRunsOut (s : State) : State :=
  match s.cu.exclusion with
  | some e =>
    let disturbs := s.cu.state == .running && e.requester == s.mc.number && e.level == s.cu.level
    censusRecheck (s.withCu { s.cu with exclusion := none, disturbed := s.cu.disturbed || disturbs })
  | none => s

/-- The hold-off reaches 0 (R172). -/
def holdOffRunsOut (s : State) : State :=
  if 0 < s.cu.holdOff then censusRecheck (s.withCu { s.cu with holdOff := 0 }) else s

/-- EXCLUSION_AGE_OUT (R170). -/
def execExclusionAgeOut (s : State) : Host.Outcome State Fault Refusal := gated s exclusionRunsOut

/-- HOLD_OFF_END (R172). -/
def execHoldOffEnd (s : State) : Host.Outcome State Fault Refusal := gated s holdOffRunsOut

end Sys2Proof.Machine
end

