-- ==== Sys2Proof/Machine/Membership.lean ====
section
/-! DEFINITION. The Membership Controller (spec 03): local decisions, entry to local mode and to Joining, line
faults, admission and refusal; and the meanings of its event commands. -/

namespace Sys2Proof.Machine

/-! ## Local decisions (R54 to R56) -/

/-- The MPC's part of a Status commit or decision: Restore, then the evaluation (R115, R127). -/
def mpcStatus (restore : Bool) (s : State) : State := evaluateNeed (if restore then restoreModule s else s)

/-- The field values of a local decision of the Status kind, after the CT has offered (R54). The station's own causes at
a level are taken as its holding and its offered ones there, not the Pending ones that are not offered (log 33). -/
def State.localValues (s : State) : StatusValues :=
  { hold := s.ct.drivenLevels
    classes := classesAt s.ct.slots (fun c => c.holding || c.offered)
    pressure := s.da.pressure
    alarm := s.alarmDrive
    refill := s.pl.refill
    restore := s.pl.restore
    objection := s.mpc.objection }

/-- A local decision of the Status kind (R54, R55, R81, R108, R132, R167, R192): a committed Status round of this
station alone, with no counter, no opened rounds, no want cleared and no census. The CT offers against the grade
that the EV holds before the decision (log 20). A freeze that outlasted the move out of Joining ends here (R131). -/
def localStatus (s : State) : State :=
  let s := offerCauses (s.withMc { s.mc with decisionDue := false })
  let v := s.localValues
  let before := s.ev.alarm
  let s := ctStatus none before (evStatus v v.hold none s)
  let s := if v.refill then refill s else s
  let s := mpcStatus v.restore (unfreeze s)
  s.withPl { s.pl with refill := s.pl.refill && !v.refill, restore := s.pl.restore && !v.restore }

/-- A local decision of the Rest kind (R56, R109). -/
def localRest (s : State) : State :=
  let hold := s.ct.holdingLevels
  evaluateNeed (evRest hold hold s.mpc.objection s)

/-- The decisions that are due, the Status decision first (R55, R109; log 16). -/
def takeDueDecisions (s : State) : State :=
  if s.isLocal then
    let s := if s.mc.decisionDue then localStatus s else s
    if s.mc.restDue then localRest (s.withMc { s.mc with restDue := false }) else s
  else s

/-- Entry to local mode from Member or Joining (R54, R107): the table is emptied, a Status decision is taken, and a
Rest decision follows when the settle timer had expired and the state is still Settling. -/
def enterLocal (s : State) : State :=
  let expired := s.ev.net == .settling && s.ev.settle.isNone
  let s := localStatus (evLocalEntry s)
  if expired ∧ s.ev.net = .settling then localRest s else s

/-! ## Line faults (R47 to R49) -/

/-- A Member leaves the network (R47). -/
def memberToDegraded (f : LineFault) (s : State) : State :=
  let s := s.withRe { s.re.clearMarks with status := .clear, census := .clear, rest := .clear, voids := 0 }
  let s := s.withMc { s.mc with state := .degraded, lastFault := some f, rejoin := some Config.twoSeconds,
                                decisionDue := false, restDue := false }
  raiseEvent .lineTrouble (enterLocal (cuLeaveMember (dropOpened (returnOffers s))))

/-- A Joining station that finds its line faulty (R48). -/
def joiningToDegraded (f : LineFault) (s : State) : State :=
  let s := s.withRe { s.re.clearMarks with join := .clear, voids := 0 }
  let s := s.withMc { s.mc with state := .degraded, lastFault := some f, rejoin := some Config.twoSeconds,
                                decisionDue := false, restDue := false }
  raiseEvent .lineTrouble (enterLocal (dropOpened s))

/-- A further fault in Degraded (R49). -/
def degradedFault (f : LineFault) (s : State) : State :=
  let s := s.withRe { s.re with join := .clear }
  raiseEvent .lineTrouble (s.withMc { s.mc with lastFault := some f, rejoin := some Config.twoSeconds })

/-- The MC takes a line fault by the membership state; a lost synchronisation leaves a Joining station Joining
(R47, R48, R49, R50). -/
def reportFault (f : LineFault) (s : State) : State :=
  match s.mc.state with
  | .member => memberToDegraded f s
  | .joining => if f = .lostSync then s else joiningToDegraded f s
  | .degraded => degradedFault f s
  | .unconfigured | .isolated => s

/-! ## Entry to Joining (R41) -/

/-- Entry to Joining: Join want, Seeking, void counter 0, EV emptied, module frozen; what local mode had due
falls away (R4, R41, R57, R85, R131). -/
def enterJoining (s : State) : State :=
  let s := s.withMc { s.mc with state := .joining, decisionDue := false, restDue := false }
  let s := raiseJoin (s.withRe { s.re with voids := 0 })
  let s := if s.lif.state = .silent then s.withLif { s.lif with state := .seeking, idleRun := 0 } else s
  let s := evJoining s
  s.withMpc { s.mpc with frozen := true }

/-! ## Join commits (R43 to R46) -/

/-- The disagreement flag takes a value; a change raises a Status want (R46). -/
def setDisagreement (b : Bool) (s : State) : State :=
  if s.mc.disagreement = b then s else raiseStatus (s.withMc { s.mc with disagreement := b })

/-- A Member applies a Join commit: the counter and the disagreement flag (R45, R46). -/
def joinAtMember (count digestMax digestMin : Half) (s : State) : State :=
  setDisagreement (digestMax != digestMin) (s.withMc { s.mc with counter := count + 1 })

/-- The winning joiner is admitted (R43): MC and RE, then EV, CT, MPC, and the CU's hold-off (R172). -/
def admitStation (count : Half) (hold : HoldMap) (s : State) : State :=
  let s := s.withRe { s.re with join := .clear, voids := 0 }
  let s := s.withMc { s.mc with state := .member, counter := count + 1, lastFault := none, rejoin := none,
                                disagreement := false, decisionDue := false, restDue := false }
  let s := ctAdmit hold (evAdmit hold (raiseStatus s))
  let s := evaluateNeed (unfreeze s)
  s.withCu { s.cu with holdOff := Config.twoSeconds }

/-- The winning joiner is refused (R44): Isolated, Silent with no round record (R17; log 6), the reason recorded, no
want kept. From Joining it enters local mode; from Degraded it is there already (R54). -/
def refuse (f : LineFault) (digestsDiffer : Bool) (s : State) : State :=
  let wasLocal := s.isLocal
  let s := s.withRe { s.re with join := .clear, voids := 0, record := none }
  let s := s.withMc { s.mc with state := .isolated, lastFault := some f, rejoin := none }
  let s := s.withLif { s.lif with state := .silent, drive := false, idleRun := 0, assertedRun := 0 }
  let s := setDisagreement digestsDiffer s
  raiseEvent .isolated (if wasLocal then s else enterLocal s)

/-- The winning joiner judges a committed Join round (R43, R44). -/
def judgeJoin (claim : Bool) (digestMax digestMin count : Half) (hold : HoldMap) (s : State) : State :=
  if claim then refuse .duplicate (digestMax != digestMin) s
  else if digestMax = s.mc.digest ∧ digestMin = s.mc.digest then admitStation count hold s
  else refuse .profile (digestMax != digestMin) s

/-! ## Expiries -/

/-- The rejoin timer runs out (R49). -/
def rejoinRunsOut (s : State) : State :=
  if s.mc.state = .degraded ∧ s.mc.rejoin.isSome then raiseJoin (s.withMc { s.mc with rejoin := none }) else s

/-- The heartbeat timer runs out (R105). -/
def heartbeatRunsOut (s : State) : State :=
  if s.ev.heartbeat.isSome then raiseStatus (s.withEv { s.ev with heartbeat := none }) else s

/-- The settle timer runs out (R102): a Rest want, or in local mode a Rest decision, behind a Status decision
that is due (R56, R109; log 16). -/
def settleRunsOut (s : State) : State :=
  if s.ev.settle.isSome then
    let s := s.withEv { s.ev with settle := none }
    if s.isLocal then
      if s.mc.decisionDue then s.withMc { s.mc with restDue := true } else localRest s
    else raiseRest s
  else s

/-- REJOIN_TIMER_EXPIRY (R49). -/
def execRejoinTimerExpiry (s : State) : Host.Outcome State Fault Refusal := gated s rejoinRunsOut

/-- LOCAL_DECISION (R55). -/
def execLocalDecision (s : State) : Host.Outcome State Fault Refusal := gated s takeDueDecisions

/-- HEARTBEAT_EXPIRY (R105). -/
def execHeartbeatExpiry (s : State) : Host.Outcome State Fault Refusal := gated s heartbeatRunsOut

/-- SETTLE_EXPIRY (R102). -/
def execSettleExpiry (s : State) : Host.Outcome State Fault Refusal := gated s settleRunsOut

end Sys2Proof.Machine
end

