-- ==== Sys2Proof/Machine/Rounds.lean ====
section
/-! DEFINITION. The Round Engine (spec 02) with the LIF's bit timing of a round (spec 01, R9 to R15): one bit begun,
sampled and ended at a time, the outcome at the void bit, and the meaning of ROUND. -/

namespace Sys2Proof.Machine

/-! ## The record -/

/-- The round record takes a new value. -/
def setRecord (r : Option RoundRecord) (s : State) : State := s.withRe { s.re with record := r }

/-- The record opened at a start accepted (R17). -/
def openRecord (s : State) : State :=
  setRecord (some {
    role := if s.mc.state = .member then .member else .nonMember
    starter := s.lif.starter
    named := if s.lif.starter then s.re.named else none
    rtype := none, invalid := false, seg := 0, bit := 0, begun := false, drives := false, value := [], lost := false
    samples := [], results := [], newLevels := [], known := s.ev.table.map (·.level), mismatch := false
    winner := false, refillDriven := false, restoreDriven := false, holdDriven := 0, abandoned := false }) s

/-- This station is one of the drivers a layout calls "Members and the winning joiner" (R26). -/
def RoundRecord.fullPart (r : RoundRecord) : Bool :=
  r.role == .member || (r.rtype == some .join && r.winner)

/-- This station drives the void bit of the round: every follower of an invalid type, else the full participants
(R22, R24 to R28). -/
def RoundRecord.drivesVoid (r : RoundRecord) : Bool := r.invalid || r.fullPart

/-- The round has an outcome at this station (R29, R34). -/
def RoundRecord.hasOutcome (r : RoundRecord) : Bool := r.fullPart

/-! ## Drive values (R30) -/

/-- The bits this station drives in a field, as they go on the line; `none` when it releases the field
(R18 to R20, R23 to R28, R30). -/
def fieldDrive (s : State) (r : RoundRecord) (f : Field) : Option (List Bool) :=
  let member := r.role == .member
  match f with
  | .typ => if r.starter then r.named.map fun t => bitsOfNat 3 t.code else none
  | .hold =>
    if member then
      some (bitsOfNat 7 (match r.rtype with
        | some .status => s.ct.drivenLevels.toNat
        | some .rest => s.ct.holdingLevels.toNat
        | some .join => (holdOf (onTable s.ev.table)).toNat
        | some .census => 0
        | none => 0))
    else none
  | .cls l => if member then some (bitsOfNat 8 (s.ct.offerClasses l).toNat) else none
  | .pressure => if member then some (bitsOfNat 3 s.da.pressure.val) else none
  | .alarm => if member then some (bitsOfNat 4 s.alarmDrive.toNat) else none
  | .notice => if member then some [s.pl.refill, s.pl.restore] else none
  | .objection => if member then some [s.mpc.objection] else none
  | .number => if !member && s.re.join.held then some (bitsOfNat 6 s.mc.number.toNat) else none
  | .claim => if member then some [decide (s.mc.number.toNat = r.result .number)] else none
  | .digestMax => if r.fullPart then some (bitsOfNat 16 s.mc.digest.toNat) else none
  | .digestMin => if r.fullPart then some ((bitsOfNat 16 s.mc.digest.toNat).map (!·)) else none
  | .count => if member then some (bitsOfNat 16 s.mc.counter.toNat) else none
  | .requester => if r.starter && r.named == some .census then some (bitsOfNat 6 s.mc.number.toNat) else none
  | .level => if r.winner then some (bitsOfNat 3 s.cu.levelDriven.val) else none
  | .candidate =>
    if member && s.candidate (BitVec.ofNat 6 (r.result .requester)) (Fin.ofNat 8 (r.result .level)) then
      some (bitsOfNat 6 s.mc.number.toNat)
    else none

/-- The bits this station drives in a part of the layout; the gap and the separators are released (R10), a confirm
sub-field repeats the samples (R21), and the void bit shows trouble (R22). -/
def segDrive (s : State) (r : RoundRecord) : Option (List Bool) :=
  if r.abandoned then none
  else
    match r.current with
    | .gap | .sep => none
    | .field f => fieldDrive s r f
    | .confirm f => if r.fullPart then some (r.raw f) else none
    | .void => if r.drivesVoid then some [s.lif.framing || r.mismatch || r.invalid] else none

/-- What the record keeps of the values just taken: the hold map and the notice bits driven (R30, R88). -/
def RoundRecord.noteDriven (r : RoundRecord) (s : State) : RoundRecord :=
  match r.current, r.drives with
  | .field .hold, true => { r with holdDriven := BitVec.ofNat 7 (natOfBits r.value) }
  | .field .notice, true => { r with refillDriven := s.pl.refill, restoreDriven := s.pl.restore }
  | _, _ => r

/-- The first bit of a part: the CT offers at the Status hold map (R73), the lost flag is cleared and the drive
value taken (R17, R30). -/
def segBegin (r : RoundRecord) (s : State) : State :=
  let s := if r.current == .field .hold && r.rtype == some .status && r.role == .member && !r.abandoned
    then offerCauses s else s
  let d := segDrive s r
  let r := { r with begun := true, drives := d.isSome, value := d.getD [], lost := false, samples := [] }
  setRecord (some (r.noteDriven s)) s

/-- The drive value of the bit that runs (R10, R14, R18). -/
def RoundRecord.driveNow (r : RoundRecord) : Bool := r.drives && !r.abandoned && !r.lost && r.value.getD r.bit false

/-- The beginning of a round bit: at the first bit of a part its values are taken, and the LIF sets the drive
value (R10). -/
def bitBegin (s : State) : State :=
  let s := match s.re.record with
    | some r => if r.bit = 0 then segBegin r s else s
    | none => s
  s.withLif { s.lif with drive := match s.re.record with
    | some r => r.driveNow
    | none => false }

/-! ## Line faults in a round -/

/-- The LIF leaves whatever it was in for a state without a round (R11, R13, R15). -/
def Lif.leave (l : Lif) (st : LifState) : Lif :=
  { l with state := st, drive := false, stretch := 0, starter := false, driven := 0, bitPos := 0, period := 0,
           framing := false, listener := false }

/-- The RE abandons the round: the record is discarded and the renewed marks are cleared (R36). -/
def abandonRound (s : State) : State :=
  s.withRe { s.re.clearMarks with record := none, named := none }

/-- A lost synchronisation (R13). -/
def lostSync (s : State) : State :=
  reportFault .lostSync (abandonRound (s.withLif { s.lif.leave .seeking with idleRun := 0 }))

/-- A drive fault found in a round (R14, R36): the station listens to the end of the void bit and the record
keeps the bit count alone. -/
def driveFault (s : State) : State :=
  let s := s.withLif { s.lif with drive := false, listener := true }
  let s := s.withRe { s.re.clearMarks with record := s.re.record.map fun r => { r with abandoned := true } }
  reportFault .driveFault s

/-- A stuck line (R15); found in every state but Silent and Stuck. -/
def stuckLineFound (s : State) : State :=
  if s.lif.state = .silent ∨ s.lif.state = .stuck then s
  else
    reportFault .stuckLine (abandonRound
      (s.withLif { s.lif.leave .stuck with idleRun := 0, assertedRun := max s.lif.assertedRun Config.stuckPeriods }))

/-! ## Samples -/

/-- A bit sample handed to the RE and checked by its role and drive (R11, R14, R18, R19, R21). -/
def bitSample (x : Bool) (s : State) : State :=
  match s.re.record with
  | none => s
  | some r =>
    let drove := s.lif.drive
    let q := { r with samples := r.samples ++ [x] }
    let beaten := r.drives && !r.abandoned && !drove && x
    match r.current with
    | .gap => if x then lostSync s else setRecord (some q) s
    | .sep =>
      if x then
        if s.lif.framing then lostSync s
        else setRecord (some q) (s.withLif { s.lif with framing := true })
      else setRecord (some q) s
    | .field f =>
      if drove && !x then driveFault (setRecord (some q) s)
      else setRecord (some { q with lost := r.lost || (f.arbitrated && beaten) }) s
    | .confirm _ =>
      if drove && !x then driveFault (setRecord (some q) s)
      else setRecord (some { q with mismatch := r.mismatch || beaten }) s
    | .void => if drove && !x then driveFault (setRecord (some q) s) else setRecord (some q) s

/-! ## The outcome (R33 to R38) -/

/-- The field values of a committed Status round (R34, R196). -/
def RoundRecord.statusValues (r : RoundRecord) : StatusValues :=
  { hold := BitVec.ofNat 7 (r.result .hold)
    classes := fun l => BitVec.ofNat 8 (r.result (.cls l))
    pressure := Fin.ofNat 8 (r.result .pressure)
    alarm := BitVec.ofNat 4 (r.result .alarm)
    refill := (r.result .notice).testBit 1
    restore := (r.result .notice).testBit 0
    objection := r.result .objection != 0 }

/-- The round counter goes up by one and wraps (R37). -/
def advanceCounter (s : State) : State := s.withMc { s.mc with counter := s.mc.counter + 1 }

/-- The PL hears which of its notice requests were carried (R34, R192). -/
def noticesCarried (r : RoundRecord) (s : State) : State :=
  s.withPl { s.pl with refill := s.pl.refill && !r.refillDriven, restore := s.pl.restore && !r.restoreDriven }

/-- A committed Status round at a Member (R33, R34, R37): RE, MC, EV, CT, DA, MPC, PL, CU. -/
def commitStatus (r : RoundRecord) (s : State) : State :=
  let v := r.statusValues
  let s := advanceCounter (s.withRe { s.re with status := s.re.status.settle })
  let before := s.ev.alarm
  let opened := some s.mc.counter
  let s := ctStatus opened before (evStatus v r.holdDriven opened s)
  let s := if v.refill then refill s else s
  let s := mpcStatus v.restore s
  cuStatus v.hold (noticesCarried r s)

/-- A committed Rest round at a Member (R33, R34, R95, R101). -/
def commitRest (r : RoundRecord) (s : State) : State :=
  let s := advanceCounter (s.withRe { s.re with rest := s.re.rest.settle })
  evaluateNeed (evRest (BitVec.ofNat 7 (r.result .hold)) r.holdDriven (r.result .objection != 0) s)

/-- A committed Census round at a Member (R33, R34, R174). -/
def commitCensus (r : RoundRecord) (s : State) : State :=
  let s := advanceCounter s
  let s := if r.winner then s.withRe { s.re with census := s.re.census.settle } else s
  cuCensus r.winner (BitVec.ofNat 6 (r.result .requester)) (Fin.ofNat 8 (r.result .level))
    (BitVec.ofNat 6 (r.result .candidate)) s

/-- A committed Join round, at a Member (R45) or at the winning joiner (R43, R44). -/
def commitJoin (r : RoundRecord) (s : State) : State :=
  let max := BitVec.ofNat 16 (r.result .digestMax)
  let min := BitVec.ofNat 16 (r.result .digestMin)
  let count := BitVec.ofNat 16 (r.result .count)
  if r.role = .member then joinAtMember count max min s
  else judgeJoin (r.result .claim != 0) max min count (BitVec.ofNat 7 (r.result .hold)) s

/-- A commit at a station that took part: the void counter is 0, and the round is delivered (R34, R38). -/
def commitRound (r : RoundRecord) (s : State) : State :=
  let s := s.withRe { s.re with voids := 0 }
  match r.rtype with
  | some .status => commitStatus r s
  | some .rest => commitRest r s
  | some .census => commitCensus r s
  | some .join => commitJoin r s
  | none => s

/-- A void at a station that took part: marks undone, the void counter advanced, and four in a row a void run
(R33, R35, R38). -/
def voidRound (s : State) : State :=
  let s := returnOffers (s.withRe s.re.clearMarks)
  let n := s.re.voids + 1
  if n < Config.voidRun then s.withRe { s.re with voids := n }
  else reportFault .voidRun (s.withRe { s.re with voids := 0 })

/-- The RE reports the round closed (R12, R17): the record is discarded and Closing ends in Idle; nothing in any other
state. -/
def closeRound (s : State) : State :=
  if s.lif.state = .closing then setRecord none (s.withLif { s.lif with state := .idle }) else s

/-- The end of the void bit (R12): the LIF enters Closing with the idle run at 0, and the RE delivers the outcome; the
record stands until the round is reported closed (R17). A listener and a follower without an outcome deliver none
and report the round closed at once (R14, R29, R35). -/
def endOfVoid (r : RoundRecord) (s : State) : State :=
  let s := s.withLif { s.lif.leave .closing with idleRun := 0 }
  let s := s.withRe { s.re with named := none }
  if r.abandoned || !r.hasOutcome then closeRound s
  else if r.samples.getLastD false then voidRound s else commitRound r s

/-! ## The end of a bit -/

/-- A non-member stands aside from a Status round (R29): no report, no outcome, Seeking. -/
def standAside (s : State) : State :=
  (s.withLif { s.lif.leave .seeking with idleRun := 0 }).withRe { s.re with record := none, named := none }

/-- A completed field: its samples join the results, and what the type, number, requester and hold fields decide
is decided (R17, R23 to R27). -/
def RoundRecord.fieldDone (r : RoundRecord) (f : Field) : RoundRecord :=
  let q := { r with results := r.results ++ [(f, r.samples)], seg := r.seg + 1, bit := 0, begun := false }
  let won := r.drives && !r.lost
  match f with
  | .typ =>
    let t := RoundType.ofCode (natOfBits r.samples)
    { q with rtype := t, invalid := t.isNone, starter := r.starter && won }
  | .number | .requester => { q with winner := won }
  | .hold =>
    if r.rtype = some .status then
      { q with newLevels := levels.filter fun l =>
          holdHas (BitVec.ofNat 7 (natOfBits r.samples)) l && !r.known.contains l }
    else q
  | .cls _ | .pressure | .alarm | .notice | .objection | .claim | .digestMax | .digestMin | .count
  | .level | .candidate => q

/-- A non-member has just read a Status type (R29). -/
def RoundRecord.standsAside (r : RoundRecord) : Bool := r.role == .nonMember && r.rtype == some .status

/-- The end of a round bit: the bit position advances (R10), and at the last bit of a part the next part follows. -/
def bitEnd (s : State) : State :=
  match s.re.record with
  | none => s
  | some r =>
    let s := s.withLif { s.lif with bitPos := s.lif.bitPos + 1, period := 0 }
    if r.bit + 1 < r.current.width then setRecord (some { r with bit := r.bit + 1 }) s
    else
      match r.current with
      | .void => endOfVoid r s
      | .field f =>
        let q := r.fieldDone f
        if q.standsAside then standAside s else setRecord (some q) s
      | .gap | .sep | .confirm _ => setRecord (some { r with seg := r.seg + 1, bit := 0, begun := false }) s

/-! ## The end of a start pulse (R7 to R9) -/

/-- A drive fault in the own start pulse (R7, R36): released at once, Idle with the idle run at 0, reported. -/
def pulseDriveFault (s : State) : State :=
  reportFault .driveFault (abandonRound (s.withLif { s.lif.leave .idle with idleRun := 0, assertedRun := 0 }))

/-- A stretch of under 32 periods ends (R8): Idle with the idle run at 0. -/
def glitchEnds (s : State) : State :=
  (s.withLif { s.lif.leave .idle with idleRun := 0, assertedRun := 0 }).withRe { s.re with named := none }

/-- The release edge (R8, R9): after an accepted stretch of up to 160 periods the LIF enters Round at bit 0, the
framing flag set when the stretch was over 64, and the period of the edge is the first of that bit; a longer stretch
is a stuck line. -/
def releaseEdge (stretch : Nat) (s : State) : State :=
  if Config.stuckPeriods ≤ stretch then stuckLineFound s
  else
    let t := bitBegin (s.withLif { s.lif with
      state := .round, drive := false, assertedRun := 0, stretch := 0, starter := false, driven := 0, bitPos := 0
      period := 0, framing := decide (Config.framingStretch < stretch), listener := false })
    t.withLif { t.lif with period := 1 }

/-- The reading after n asserted ones is a check point of this station's own pulse: the fifth of one of its six bit
times, while the station still drives (R7). -/
def Lif.checkPoint (l : Lif) (n : Nat) : Bool := l.starter && decide (n < Config.pulsePeriods) && n % 8 == 4

/-- The first released reading after a stretch of n asserted ones (R7, R8, R9): a drive fault at a check point of the
own pulse, the release edge of an accepted stretch, a glitch otherwise. -/
def pulseEnds (n : Nat) (s : State) : State :=
  if s.lif.checkPoint n then pulseDriveFault s
  else if s.re.record.isSome then releaseEdge n s
  else glitchEnds s

/-! ## A whole bit, and ROUND -/

/-- The period watch over n periods of a round bit that all read x: the asserted run counts, and a stuck line is
found at 161, before the bit sample of the same period (R2, R15; log 5). -/
def watchBit (x : Bool) (n : Nat) (s : State) : State :=
  let run := if x then s.lif.assertedRun + n else 0
  let t := s.withLif { s.lif with assertedRun := run }
  if Config.stuckPeriods ≤ run then stuckLineFound t else t

/-- The sample of the round bit that runs, released when it has not been taken. -/
def State.lastSample (s : State) : Bool :=
  match s.re.record with
  | some r => r.samples.getLastD false
  | none => false

/-- The rest of a round bit whose sample has been taken. -/
def finishBit (x : Bool) (s : State) : State :=
  if s.lif.state = .round then
    let s := watchBit x (Config.bitPeriods - max s.lif.period Config.samplePeriodOfBit) s
    if s.lif.state = .round then bitEnd s else s
  else s

/-- One round bit with its sample (R10). -/
def runBit (x : Bool) (s : State) : State :=
  if s.lif.state = .round then
    let s := if s.lif.period = 0 then bitBegin s else s
    let s := watchBit x (Config.samplePeriodOfBit - s.lif.period) s
    if s.lif.state = .round then finishBit x (bitSample x s) else s
  else s

/-- The next bit samples, in order; those after the end of the round are not this round's. -/
def runBits : List Bool → State → State
  | [], s => s
  | x :: xs, s => runBits xs (runBit x s)

/-- A round taken from the release edge, or from where it stands, through the given samples (R9 to R14, R17 to
R38). A bit that the idle step has already sampled is ended first, the rest of it read at the sampled level
(log 5). -/
def followRound (stretch : Nat) (samples : List Bool) (s : State) : State :=
  let s := if s.lif.state = .pulse ∧ s.re.record.isSome then pulseEnds (max stretch s.lif.stretch) s else s
  let s := if s.lif.state = .round ∧ Config.samplePeriodOfBit ≤ s.lif.period then finishBit s.lastSample s else s
  runBits samples s

/-- A round can be followed: its start has been accepted, it runs, or it waits to be closed. -/
def State.roundStands (s : State) : Bool :=
  (s.lif.state == .pulse && s.re.record.isSome) || s.lif.state == .round || s.lif.state == .closing

/-- The effect of ROUND where a round stands: the peers no longer drive the line when it ends (log 26), and the
RE's round-closed report falls in the step when `closed` is set (R12; log 6). -/
def roundEffect (stretch : Nat) (samples : List Bool) (closed : Bool) (s : State) : State :=
  let s := followRound stretch samples s
  let s := s.withPins { s.pins with wakePeers := s.pins.wakePeers && s.lif.state == .stuck }
  if closed then closeRound s else s

/-- ROUND (R17); no change where no round stands (log 2). -/
def execRound (stretch : Nat) (samples : List Bool) (closed : Bool) (s : State) :
    Host.Outcome State Fault Refusal :=
  gated s fun s => if s.roundStands then roundEffect stretch samples closed s else s

end Sys2Proof.Machine
end

