-- ==== Sys2Proof/Machine/Line.lean ====
section
/-! DEFINITION. The Line Interface's steps (spec 01, R5 to R8, R13, R15), the period watch in every LIF state (R2), and
the start request of the RE (R32). A command whose own state does not stand changes nothing (log 2). -/

namespace Sys2Proof.Machine

/-- The wake line as the peers drive it. -/
def setWakePeers (b : Bool) (s : State) : State := s.withPins { s.pins with wakePeers := b }

/-! ## Effects -/

/-- Seeking ends (R6): the idle run keeps counting from 1,536 or more. -/
def seekingEnds (s : State) : State :=
  s.withLif { s.lif with state := .idle, idleRun := max s.lif.idleRun Config.seekingPeriods, assertedRun := 0 }

/-- The LIF takes a start request (R7): Pulse with the starter flag set and the stretch at 0, the line driven; the
RE keeps the type it named (R17, R32). -/
def pulseBegins (t : RoundType) (s : State) : State :=
  (s.withLif { s.lif with
    state := .pulse, starter := true, stretch := 0, driven := 0, drive := true, assertedRun := 0
    idleRun := max s.lif.idleRun (startOffset s.mc.number) }).withRe { s.re with named := some t }

/-- A start request (R32): the highest-ranked want is named; the LIF refuses it outside Idle (R7). -/
def startRequest (fault : Option (Fin 6)) (s : State) : State :=
  match s.re.highestWant with
  | some t =>
    if s.lif.state = .idle then
      match fault with
      | none => pulseBegins t s
      | some _ => pulseDriveFault (pulseBegins t s)
    else s
  | none => s

/-- Pulse as a receiver with the stretch at 1 (R8), `run` asserted readings standing in the asserted run (R2): 1 at the
first reading of a possible start, which follows 32 or more released ones. -/
def receiverPulse (run : Nat) (s : State) : State :=
  s.withLif { s.lif with
    state := .pulse, starter := false, stretch := 1, driven := 0, idleRun := 0, assertedRun := run }

/-- A start is accepted: the stretch stands at 32 or more and the RE opens its record (R8, R17). -/
def startIsAccepted (s : State) : State :=
  openRecord (s.withLif { s.lif with
    stretch := max s.lif.stretch Config.startPeriods
    driven := if s.lif.starter then max s.lif.driven Config.startPeriods else 0
    assertedRun := max s.lif.assertedRun Config.startPeriods, idleRun := 0 })

/-- The asserted run when a stretch reaches 32 periods in Closing: the readings that the stretch still lacks have been
read asserted (R2; log 32). Where the run would have been a stuck line by then, a released reading is taken as passed
before the stretch. -/
def Lif.runAtStart (l : Lif) : Nat :=
  let n := l.assertedRun + (Config.startPeriods - l.stretch)
  if n < Config.stuckPeriods then n else Config.startPeriods

/-- A stretch reaches 32 periods, by LIF state: accepted in Pulse, and in Idle as a receiver, where the asserted run goes
on (R13; log 8); a lost synchronisation in Closing (R13; log 32). -/
def stretchReaches (s : State) : State :=
  match s.lif.state with
  | .pulse => if s.re.record.isNone then startIsAccepted s else s
  | .idle => startIsAccepted (receiverPulse s.lif.assertedRun s)
  | .closing => lostSync (s.withLif { s.lif with assertedRun := s.lif.runAtStart })
  | .silent | .seeking | .round | .stuck => s

/-- A stuck line clears (R15): Seeking with the idle run at 0. -/
def stuckClears (s : State) : State :=
  s.withLif { s.lif with state := .seeking, idleRun := 0, assertedRun := 0 }

/-- An asserted reading that begins no pulse (R5, R8): the idle run is 0, the asserted run counts, and at 161 the
line is stuck, which is found and reported once (R2, R15). -/
def assertedReading (s : State) : State :=
  let t := s.withLif { s.lif with idleRun := 0, assertedRun := s.lif.assertedRun + 1 }
  if Config.stuckPeriods ≤ t.lif.assertedRun then stuckLineFound t else t

/-! ## The wake line at the end of a period (spec 01) -/

/-- A released reading outside a round and outside Stuck: the idle run counts and holds at 65,535 (R5). -/
def releasedReading (s : State) : State :=
  s.withLif { s.lif with idleRun := min (s.lif.idleRun + 1) Config.idleRunMax, assertedRun := 0, stretch := 0 }

/-- The period watch in Seeking (R6). -/
def watchSeeking (x : Bool) (s : State) : State :=
  if x then assertedReading s
  else
    let t := releasedReading s
    if Config.seekingPeriods ≤ t.lif.idleRun then seekingEnds t else t

/-- The period watch in Idle (R8). -/
def watchIdle (x : Bool) (s : State) : State :=
  if x then (if Config.startPeriods ≤ s.lif.idleRun then receiverPulse 1 s else assertedReading s)
  else releasedReading s

/-- An asserted reading in Pulse (R8, R15). -/
def stretchGrows (s : State) : State :=
  let t := s.withLif { s.lif with
    stretch := s.lif.stretch + 1, driven := if s.lif.drive then s.lif.driven + 1 else s.lif.driven
    idleRun := 0, assertedRun := s.lif.assertedRun + 1 }
  if Config.stuckPeriods ≤ t.lif.assertedRun then stuckLineFound t
  else if Config.startPeriods ≤ t.lif.stretch ∧ t.re.record.isNone then startIsAccepted t
  else t

/-- The period watch in Pulse (R7 to R9). -/
def watchPulse (x : Bool) (s : State) : State := if x then stretchGrows s else pulseEnds s.lif.stretch s

/-- One period of a round bit (R2, R10): the watch, the sample at the end of the fifth, the end at the eighth. A stuck
line that the watch finds comes first and leaves no sample (log 5). -/
def watchRound (x : Bool) (s : State) : State :=
  let s := watchBit x 1 s
  if s.lif.state = .round then
    let s := s.withLif { s.lif with period := s.lif.period + 1 }
    let s := if s.lif.period = Config.samplePeriodOfBit then bitSample x s else s
    if s.lif.state = .round ∧ s.lif.period = Config.bitPeriods then bitEnd s else s
  else s

/-- The period watch in Closing (R12, R13). Its asserted readings count as a stretch from the entry to Closing, and 32 in a
row are a lost synchronisation whatever the idle run before them: DESIGN CHOICE (log 32). -/
def watchClosing (x : Bool) (s : State) : State :=
  if x then
    let t := assertedReading (s.withLif { s.lif with stretch := s.lif.stretch + 1 })
    if t.lif.state = .closing ∧ Config.startPeriods ≤ t.lif.stretch then lostSync t else t
  else releasedReading s

/-- The reading at the end of a period, by LIF state (R2). -/
def watchLine (x : Bool) (s : State) : State :=
  match s.lif.state with
  | .silent => s
  | .seeking => watchSeeking x s
  | .idle => watchIdle x s
  | .pulse => watchPulse x s
  | .round => watchRound x s
  | .closing => watchClosing x s
  | .stuck => if x then assertedReading s else stuckClears s

/-- The drive value for the period that begins: the own start pulse for 48 periods (R7), and a new round bit (R10). -/
def driveForPeriod (s : State) : State :=
  match s.lif.state with
  | .pulse => s.withLif { s.lif with drive := s.lif.starter && decide (s.lif.driven < Config.pulsePeriods) }
  | .round => if s.lif.period = 0 then bitBegin s else s
  | .silent | .seeking | .idle | .closing | .stuck => s

/-! ## Meanings -/

/-- SEEKING_END (R6). -/
def execSeekingEnd (s : State) : Host.Outcome State Fault Refusal :=
  gated s fun s => if s.lif.state = .seeking then setWakePeers false (seekingEnds s) else s

/-- START_REQUEST (R32, R7). -/
def execStartRequest (fault : Option (Fin 6)) (s : State) : Host.Outcome State Fault Refusal :=
  gated s (startRequest fault)

/-- START_PULSE_SEEN (R8): the idle run of 32 periods before the reading is taken as passed (log 2). -/
def execStartPulseSeen (s : State) : Host.Outcome State Fault Refusal :=
  gated s fun s => if s.lif.state = .idle then setWakePeers true (receiverPulse 1 s) else s

/-- START_ACCEPTED (R8, R13). -/
def execStartAccepted (s : State) : Host.Outcome State Fault Refusal := gated s stretchReaches

/-- GLITCH (R8): a released reading before the start is accepted; at a check point of the own pulse it is a drive
fault (R7). -/
def execGlitch (s : State) : Host.Outcome State Fault Refusal :=
  gated s fun s =>
    if s.lif.state = .pulse ∧ s.re.record.isNone then setWakePeers false (pulseEnds s.lif.stretch s) else s

/-- STUCK_LINE (R15): found in every state but Silent and Stuck. -/
def execStuckLine (s : State) : Host.Outcome State Fault Refusal :=
  gated s fun s =>
    if s.lif.state = .silent ∨ s.lif.state = .stuck then s else setWakePeers true (stuckLineFound s)

/-- STUCK_LINE_CLEARED (R15). -/
def execStuckLineCleared (s : State) : Host.Outcome State Fault Refusal :=
  gated s fun s => if s.lif.state = .stuck then setWakePeers false (stuckClears s) else s

/-- ASSERTED_PERIOD_WATCH_READING (R2, R5, R8, R15): one period of the line with its reading asserted, in whatever
state the LIF is in. -/
def execAssertedPeriodWatchReading (s : State) : Host.Outcome State Fault Refusal :=
  gated s fun s => watchLine true (driveForPeriod s)

end Sys2Proof.Machine
end

