-- ==== Sys2Proof/Machine/Converter.lean ====
section
/-! DEFINITION. The meanings of the clock, converter and schedule commands (spec 07, R133 to R149) and of the module's
timers (spec 06, R118, R121, R129). -/

namespace Sys2Proof.Machine

/-! ## The clock -/

/-- The clock is confirmed (R134, R136): Running, ClockFault released, then a selection. -/
def clockConfirmed (s : State) : State :=
  select (setClockFault false (s.withMu { s.mu with clock := .running, startTime := none }))

/-- The settle interval has passed since the attempt began, so the MU checks the oscillator (R134). -/
def State.settled (s : State) : Bool :=
  match s.mu.startTime with
  | some t => decide (t + s.settings.settleInterval ≤ s.time)
  | none => true

/-- CLOCK_CONFIRMED (R134): taken in Settling once the settle interval has passed (log 15). -/
def execClockConfirmed (s : State) : Host.Outcome State Fault Refusal :=
  gated s fun s => if s.mu.clock = .settling ∧ s.settled = true then clockConfirmed s else s

/-- CLOCK_SETTLE_TIMEOUT (R135). -/
def execClockSettleTimeout (s : State) : Host.Outcome State Fault Refusal :=
  gated s fun s => if s.mu.clock = .settling then clockFails s else s

/-- CLOCK_OUT_OF_TOLERANCE (R135). -/
def execClockOutOfTolerance (s : State) : Host.Outcome State Fault Refusal :=
  gated s fun s => if s.mu.clock = .running then clockFails s else s

/-- The link hold reaches 0 (R133, R137). -/
def linkHoldRunsOut (s : State) : State :=
  if 0 < s.mu.linkHold then stopIdleClock (s.withMu { s.mu with linkHold := 0 }) else s

/-- LINK_HOLD_EXPIRY (R133). -/
def execLinkHoldExpiry (s : State) : Host.Outcome State Fault Refusal := gated s linkHoldRunsOut

/-! ## Schedules -/

/-- The battery timer expires (R141): reloaded for the network state, and a battery check requested. -/
def batteryTimerRunsOut (s : State) : State :=
  if s.mu.batteryTimer.isSome then
    request .battery (s.withMu { s.mu with batteryTimer := some (s.settings.batteryInterval s.ev.net) })
  else s

/-- The quiet-interval timer is loaded for the grade, and a quiet check requested (R142). -/
def requestQuiet (s : State) : State :=
  request .quiet (s.withMu { s.mu with quietTimer := some (s.settings.quietInterval s.ev.grade) })

/-- The quiet-interval timer expires (R142). -/
def quietIntervalRunsOut (s : State) : State := if s.mu.quietTimer.isSome then requestQuiet s else s

/-- The quiet-delay timer expires (R129, R142). -/
def quietDelayRunsOut (s : State) : State :=
  if s.mpc.quietDelay.isSome then requestQuiet (s.withMpc { s.mpc with quietDelay := none }) else s

/-- A sample boundary (R154): the phase restarts at 0 and a drain sample is requested. -/
def sampleBoundary (s : State) : State :=
  if s.fixed && s.da.phase.isSome then request .drain (s.withDa { s.da with phase := some 0 }) else s

/-- BATTERY_TIMER_EXPIRY (R141). -/
def execBatteryTimerExpiry (s : State) : Host.Outcome State Fault Refusal := gated s batteryTimerRunsOut

/-- QUIET_INTERVAL_EXPIRY (R142). -/
def execQuietIntervalExpiry (s : State) : Host.Outcome State Fault Refusal := gated s quietIntervalRunsOut

/-- QUIET_DELAY_EXPIRY (R129). -/
def execQuietDelayExpiry (s : State) : Host.Outcome State Fault Refusal := gated s quietDelayRunsOut

/-- SAMPLE_BOUNDARY (R154). -/
def execSampleBoundary (s : State) : Host.Outcome State Fault Refusal := gated s sampleBoundary

/-! ## The end of a conversion (R138, R144 to R147) -/

/-- A battery check's outcome (R144, R147). -/
def batteryOutcome (code : Nat) (s : State) : State :=
  let limit := s.settings.batteryLimit
  if code < limit then
    let t := s.withMu { s.mu with deficit := some (limit - code), batteryLow := true }
    if s.mu.batteryLow then t else recomputeGrades (raiseEvent .batteryLow t)
  else if s.mu.batteryLow then recomputeGrades (s.withMu { s.mu with batteryLow := false })
  else s

/-- A quiet check's outcome (R144, R146): the MPC's loud count and the DA's charge. -/
def quietCheckOutcome (code : Nat) (s : State) : State :=
  let limit := s.settings.quietLimit
  if limit ≤ code then
    quietCharge code (loudOutcome (s.withMu { s.mu with quietRecord := some (code - limit) }))
  else quietCharge s.settings.quietFloor (quietOutcome s)

/-- What the outcome of a finished conversion does at its consumers (R144 to R147, R155). -/
def deliver (u : User) (code : BitVec 12) (s : State) : State :=
  match u with
  | .battery => batteryOutcome code.toNat s
  | .quiet => quietCheckOutcome code.toNat s
  | .drain => sampleEntry code s

/-- The conversion in flight ends: the input of its channel becomes a code (R138), which is compared and stored, then
delivered; then the next selection or the stop (R145). -/
def conversionEnds (input : Int) (s : State) : State :=
  match s.mu.inFlight with
  | some u =>
    selectOrStop (deliver u (u.channel.code input (Config.freeRounding s.mu.conversions))
      (s.withMu { s.mu with inFlight := none, conversions := s.mu.conversions + 1 }))
  | none => s

/-- CONVERSION_END (R138, R145). -/
def execConversionEnd (input : Int) (s : State) : Host.Outcome State Fault Refusal :=
  gated s (conversionEnds input)

/-! ## Module timers -/

/-- The hello timer expires (R118); it does not count while frozen (R131). -/
def helloRunsOut (s : State) : State :=
  if s.mpc.state = .powering ∧ s.mpc.hello.isSome ∧ s.mpc.frozen = false then
    powerUpDone (raiseEvent .moduleSilent s)
  else s

/-- The grace timer expires (R121); it does not count while frozen (R131). -/
def graceRunsOut (s : State) : State :=
  if s.mpc.state = .parking ∧ s.mpc.grace.isSome ∧ s.mpc.frozen = false then
    parkDone (raiseEvent .parkForced s)
  else s

/-- HELLO_TIMER_EXPIRY (R118). -/
def execHelloTimerExpiry (s : State) : Host.Outcome State Fault Refusal := gated s helloRunsOut

/-- GRACE_EXPIRY (R121). -/
def execGraceExpiry (s : State) : Host.Outcome State Fault Refusal := gated s graceRunsOut

end Sys2Proof.Machine
end

