-- ==== Sys2Proof/Machine/Records.lean ====
section
/-! DEFINITION. The records read over the link, byte by byte (spec 11, R202, R203). -/

namespace Sys2Proof.Machine

/-! ## Codes -/

def Membership.code : Membership → Byte
  | .unconfigured => 0
  | .joining => 1
  | .member => 2
  | .degraded => 3
  | .isolated => 4

/-- The last refusal or fault, 0 when absent. -/
def faultCode : Option LineFault → Byte
  | none => 0
  | some .duplicate => 1
  | some .profile => 2
  | some .stuckLine => 3
  | some .driveFault => 4
  | some .voidRun => 5
  | some .lostSync => 6

def NetState.code : NetState → Byte
  | .rest => 0
  | .awake => 1
  | .settling => 2

def ModuleState.code : ModuleState → Byte
  | .off => 0
  | .powering => 1
  | .on => 2
  | .parking => 3
  | .cut => 4

def ClockState.code : ClockState → Byte
  | .stopped => 0
  | .settling => 1
  | .running => 2
  | .failed => 3

def CauseState.code : CauseState → Byte
  | .disabled => 0
  | .idle => 1
  | .pending => 2
  | .held => 3
  | .lingering => 4

def CensusState.code : CensusState → Byte
  | .idle => 0
  | .waiting => 1
  | .running => 2
  | .complete => 3
  | .abandoned => 4

/-- Two three-bit values in one byte: bits 6 to 4 and bits 2 to 0. -/
def nibbles (hi lo : Fin 8) : Byte := BitVec.ofNat 8 (16 * hi.val + lo.val)

/-! ## Records -/

/-- The station status record (R189, R202). -/
def State.statusRecord (s : State) : List Byte :=
  [s.mc.state.code, s.mc.number.setWidth 8] ++ bytesOfNat 2 s.mc.digest.toNat ++ bytesOfNat 2 s.mc.counter.toNat
    ++ [flagBit 0 s.mc.disagreement ||| flagBit 1 s.mpc.frozen ||| flagBit 2 s.mu.batteryLow
          ||| flagBit 3 s.pl.refill ||| flagBit 4 s.pl.restore,
        BitVec.ofNat 8 (s.mc.rejoin.getD 0), faultCode s.mc.lastFault, BitVec.ofNat 8 s.re.voids,
        s.ev.net.code, nibbles s.ev.grade s.da.pressure, nibbles s.topLevel s.floor, s.ev.alarm.setWidth 8,
        s.mpc.state.code, BitVec.ofNat 8 s.mpc.loud, s.mu.clock.code]

/-- The cause byte of an entry (R197). -/
def Cause.byte (c : Cause) : Byte :=
  BitVec.ofNat 8 (32 * c.level.val + 4 * c.cls.val) ||| flagBit 1 (c.mode == .level)

/-- A cause entry's nine bytes (R202); a self-rails code above 3 shows its low two bits (log 31). -/
def Cause.record (c : Cause) : List Byte :=
  [c.byte, c.linger, c.patience, (c.state.code <<< 4) ||| (c.rails &&& 3),
   flagBit 0 c.offered ||| flagBit 1 c.merged ||| flagBit 2 c.expiryHeld ||| flagBit 3 c.opened.isSome]
    ++ bytesOfNat 2 c.countdown ++ bytesOfNat 2 (c.opened.getD 0).toNat

/-- A wake timer's seven bytes (R202). -/
def WakeTimer.record (w : WakeTimer) : List Byte :=
  bytesOfNat 3 w.count ++ bytesOfNat 3 w.reload ++ [flagBit 0 w.periodic ||| flagBit 1 w.running]

/-- The cause table record (R58, R202). -/
def Ct.record (t : Ct) : List Byte := t.slots.flatMap Cause.record ++ t.timers.flatMap WakeTimer.record

/-- An episode entry's five bytes (R202). -/
def Entry.record (x : Entry) : List Byte :=
  [nibbles 0 x.level,
   flagBit 0 x.exclusive ||| flagBit 1 x.suspended ||| flagBit 2 x.own ||| flagBit 3 x.learned
     ||| flagBit 4 x.opened.isSome ||| flagBit 5 x.classes.isSome]
    ++ bytesOfNat 2 (x.opened.getD 0).toNat ++ [x.classes.getD 0]

/-- The episode table record (R110, R202). -/
def State.episodeRecord (s : State) : List Byte :=
  BitVec.ofNat 8 s.ev.table.length :: s.ev.table.flatMap Entry.record ++ [nibbles s.topLevel s.floor]

/-- The drain record (R168, R202). -/
def State.drainRecord (s : State) : List Byte :=
  s.da.window.flatMap (fun x => bytesOfNat 2 x.toNat) ++ bytesOfNat 2 s.da.filtered
    ++ [flagBit 0 s.da.saturated ||| flagBit 1 s.da.exhausted ||| flagBit 2 s.mu.batteryLow
          ||| flagBit 3 s.mu.quietRecord.isSome ||| flagBit 4 s.mu.deficit.isSome]
    ++ bytesOfNat 6 s.da.spent ++ bytesOfNat 4 s.balanceMc
    ++ [nibbles s.da.balanceGrade s.da.rateGrade, nibbles 0 s.da.pressure]
    ++ bytesOfNat 2 (s.mu.quietRecord.getD 0) ++ bytesOfNat 2 (s.mu.deficit.getD 0)
    ++ [BitVec.ofNat 8 s.mpc.loud]

/-- The census record (R169, R202). -/
def Cu.record (c : Cu) : List Byte :=
  [c.state.code, nibbles 0 c.level, flagBit 0 c.disturbed ||| flagBit 1 c.truncated,
   BitVec.ofNat 8 c.list.length] ++ c.list.map (·.setWidth 8)

end Sys2Proof.Machine
end

