-- ==== Sys2Proof/Machine/Link.lean ====
section
/-! DEFINITION. The Processor Link (spec 10): select and deselect, the taking of a command, and the meaning of every
link command. -/

namespace Sys2Proof.Machine

/-! ## Status codes (R197) -/

def statusDone : Byte := 0xA1
def statusBusy : Byte := 0xB2
def statusWrong : Byte := 0xC3
def statusRange : Byte := 0xD4
def statusUnknown : Byte := 0xE5

/-- What a command's owner answers at the take: the state it leaves, the status byte and the response bytes. -/
structure Answer where
  state : State
  status : Byte
  response : List Byte
  deriving DecidableEq, Repr

/-- Answered Done with an effect and no response bytes. -/
def done (s : State) : Answer := ⟨s, statusDone, []⟩

/-- A read: answered Done with its record, no state changed (R190). -/
def reads (response : List Byte) (s : State) : Answer := ⟨s, statusDone, response⟩

/-- Answered Wrong-state; nothing changes. -/
def wrongState (s : State) : Answer := ⟨s, statusWrong, []⟩

/-- Answered Out-of-range; nothing changes (R199). -/
def outOfRange (s : State) : Answer := ⟨s, statusRange, []⟩

/-! ## What LSO shows (R181 to R184, R197) -/

/-- The byte of LSO with `clocked` bytes clocked since the take or the refusal: 0 in the Command and Arguments phases,
the refusing status code, the answer's byte, and 0 in the Trailing phase. -/
def Txn.lsoByte (t : Txn) (clocked : Nat) : Byte :=
  match t with
  | .opened | .arguments => 0
  | .refused status => status
  | .taken answer => answer.getD clocked 0

/-- The byte LSO shows, `none` for high impedance: with RAILA off, with LCS_N deasserted, and in no transaction
(R181; log 25). -/
def State.lso (s : State) (clocked : Nat) : Option Byte :=
  if s.mpc.raila && s.pins.lcs then s.pl.txn.map fun t => t.lsoByte clocked else none

/-- The level of LSO for the bit that `k` falling edges of LSCK precede in its byte, most significant bit first
(R181). -/
def State.lsoBit (s : State) (clocked : Nat) (k : Fin 8) : Option Bool :=
  (s.lso clocked).map fun b => b.getLsbD (7 - k.val)

/-- The byte that eight rising edges of LSCK shift in from LSI, most significant bit first (R181). -/
def lsiByte (samples : List Bool) : Byte := BitVec.ofNat 8 (natOfBits samples)

/-! ## Transactions (R181 to R183) -/

/-- The transaction takes a value. -/
def setTxn (t : Option Txn) (s : State) : State := s.withPl { s.pl with txn := t }

/-- A transaction is in its Command phase and the link is live (R181, R182). -/
def State.linkOpen (s : State) : Bool := s.pins.rstN && s.mpc.raila && s.pl.txn == some .opened

/-- A command is taken, and its answer formed (R182). A command that switches RAILA off ends the transaction with
its effect standing (R181). -/
def takeCommand (owner : State → Answer) (s : State) : State :=
  let a := owner s
  if a.state.mpc.raila then setTxn (some (.taken (a.status :: a.response))) a.state else a.state

/-- A link command: no transaction open, nothing; the fast clock not Running, refused Busy-clock (R183); else the
command is taken whole (R185). -/
def linkCommand (owner : State → Answer) (s : State) : Host.Outcome State Fault Refusal :=
  .next (if s.linkOpen then
      (if s.mu.clock = .running then takeCommand owner s else setTxn (some (.refused statusBusy)) s)
    else s)

/-- An assertion of LCS_N (R181, R133, R136): a transaction and a demand. -/
def linkAssert (s : State) : State :=
  if s.pins.lcs then s
  else
    let t := s.withPins { s.pins with lcs := true }
    if s.pins.rstN && s.mpc.raila then
      let t := setTxn (some .opened) t
      if s.mu.clock = .stopped ∨ s.mu.clock = .failed then startAttempt t else t
    else t

/-- The command taken in the transaction was read out when `clocked` bytes of its answer were clocked (R182). -/
def Txn.readOut (t : Option Txn) (clocked : Nat) : Bool :=
  match t with
  | some (.taken answer) => decide (answer.length ≤ clocked)
  | _ => false

/-- A deassertion of LCS_N (R182, R194, R133): the transaction ends, the clearing marks are resolved and the link
hold is loaded. -/
def linkRelease (clocked : Nat) (s : State) : State :=
  if s.pins.lcs then
    let t := s.withPins { s.pins with lcs := false }
    if s.pins.rstN && s.mpc.raila then
      let events := if Txn.readOut s.pl.txn clocked then s.pl.events &&& ~~~s.pl.clearing else s.pl.events
      let t := t.withPl { t.pl with events := events, clearing := 0, txn := none }
      startOnDemand (t.withMu { t.mu with linkHold := Config.linkHoldPeriods })
    else t
  else s

/-- LINK_SELECT (R181). -/
def execLinkSelect (s : State) : Host.Outcome State Fault Refusal := .next (linkAssert s)

/-- LINK_DESELECT (R182). -/
def execLinkDeselect (clocked : Nat) (s : State) : Host.Outcome State Fault Refusal := .next (linkRelease clocked s)

/-- UNKNOWN_COMMAND (R184), whatever the fast clock's state (log 9); a byte that names a command is none. -/
def execUnknownCommand (byte : Byte) (s : State) : Host.Outcome State Fault Refusal :=
  .next (if s.linkOpen && (linkCommandOf byte).isNone then setTxn (some (.refused statusUnknown)) s else s)

/-! ## Reads (R187, R189, R190, R194) -/

/-- READ_STATION_STATUS (R189). -/
def execReadStationStatus (s : State) : Host.Outcome State Fault Refusal :=
  linkCommand (fun s => reads s.statusRecord s) s

/-- READ_CAUSE_TABLE (R58). -/
def execReadCauseTable (s : State) : Host.Outcome State Fault Refusal :=
  linkCommand (fun s => reads s.ct.record s) s

/-- READ_EPISODE_TABLE (R110). -/
def execReadEpisodeTable (s : State) : Host.Outcome State Fault Refusal :=
  linkCommand (fun s => reads s.episodeRecord s) s

/-- READ_DRAIN_RECORD (R168). -/
def execReadDrainRecord (s : State) : Host.Outcome State Fault Refusal :=
  linkCommand (fun s => reads s.drainRecord s) s

/-- READ_CENSUS (R169). -/
def execReadCensus (s : State) : Host.Outcome State Fault Refusal :=
  linkCommand (fun s => if s.fixed then reads s.cu.record s else wrongState s) s

/-- The flags returned set are marked clearing (R194). -/
def markClearing (s : State) : State := s.withPl { s.pl with clearing := s.pl.events }

/-- READ_AND_CLEAR_EVENTS (R194, R203). -/
def execReadAndClearEvents (s : State) : Host.Outcome State Fault Refusal :=
  linkCommand (fun s => reads (bytesOfNat 2 s.pl.events.toNat) (markClearing s)) s

/-- READ_CONFIG_SECTION (R187). -/
def execReadConfigSection (ident : Byte) (s : State) : Host.Outcome State Fault Refusal :=
  linkCommand (fun s => match s.pl.store.body ident with
    | some b => reads b s
    | none => outOfRange s) s

/-! ## Configuration (R186, R188) -/

/-- Write Config Section at its take (R186). -/
def writeSection (ident : Byte) (body : List Byte) (s : State) : Answer :=
  if (bodyLength ident).isNone then outOfRange s
  else if s.fixed then wrongState s
  else done (s.withPl { s.pl with store := s.pl.store.write ident body })

/-- The command byte has been clocked and its arguments have not (R182, R183): the Arguments phase, or Busy-clock. -/
def awaitArguments (s : State) : State :=
  if s.linkOpen then
    setTxn (some (if s.mu.clock = .running then .arguments else .refused statusBusy)) s
  else s

/-- WRITE_CONFIG_SECTION (R186): taken at its last argument byte. With fewer body bytes than the section has it is
not taken and the transaction stays in its Arguments phase (R182); bytes past the last are ignored. -/
def execWriteConfigSection (ident : Byte) (body : List Byte) (s : State) : Host.Outcome State Fault Refusal :=
  match bodyLength ident with
  | none => linkCommand (writeSection ident []) s
  | some n =>
    if n ≤ body.length then linkCommand (writeSection ident (body.take n)) s else .next (awaitArguments s)

/-- The configuration is fixed (R188): MC, CT, MPC, MU, DA in the order of the rule. -/
def fixConfiguration (s : State) : State :=
  let s := s.withMc { s.mc with number := s.pl.store.stationNumber, digest := s.pl.store.digest }
  let s := loadCauses (enterJoining s)
  let s := s.withMu { s.mu with batteryTimer := some (s.settings.batteryInterval s.ev.net) }
  recomputeGrades (s.withDa { s.da with phase := if s.mpc.raila then some 0 else none })

/-- Fix at its take (R188). -/
def fixAnswer (s : State) : Answer :=
  if s.fixed then wrongState s
  else if s.pl.store.firstFaulty = 0 then ⟨fixConfiguration s, statusDone, [0]⟩
  else ⟨s, statusRange, [s.pl.store.firstFaulty]⟩

/-- FIX (R188). -/
def execFix (s : State) : Host.Outcome State Fault Refusal := linkCommand fixAnswer s

/-! ## Causes and wake timers (R64, R66, R67) -/

/-- Slots 7 to 15 are the posted ones (R58). -/
def postedSlot (slot : Byte) : Bool := decide (7 ≤ slot.toNat) && decide (slot.toNat ≤ 15)

/-- The entry a Post Cause gives to a Disabled or Idle slot, before its trigger (R66). -/
def postedEntry (cause linger patience rails : Byte) : Cause :=
  { Cause.disabled with
    level := causeLevel cause, cls := causeClass cause, mode := causeMode cause,
    linger := linger, patience := patience, rails := rails, state := .idle }

/-- Post Cause at its take (R66). -/
def postAnswer (slot cause linger patience rails : Byte) (s : State) : Answer :=
  let i := slot.toNat
  let c := s.slot i
  if !postedSlot slot || causeLevel cause == 0 || linger == 0 || !railsDefined rails then outOfRange s
  else if !s.fixed then wrongState s
  else
    match c.state, c.mode with
    | .disabled, _ | .idle, _ => done (trigger i (setSlot i (postedEntry cause linger patience rails) s))
    | .pending, _ | .lingering, .momentary => done (trigger i s)
    | .held, _ | .lingering, .level => wrongState s

/-- POST_CAUSE (R66). -/
def execPostCause (slot cause linger patience rails : Byte) (s : State) : Host.Outcome State Fault Refusal :=
  linkCommand (postAnswer slot cause linger patience rails) s

/-- A posted cause is released (R67, R78, R79). -/
def releaseSlot (i : Nat) (s : State) : State :=
  let c := s.slot i
  let t := setSlot i c.toIdle s
  if c.state = .idle then t
  else if c.holding then reportCause c (raiseStatus t) else raiseStatus t

/-- Release Cause at its take (R67). -/
def releaseAnswer (slot : Byte) (s : State) : Answer :=
  if !postedSlot slot then outOfRange s
  else if (s.slot slot.toNat).state = .disabled then wrongState s
  else done (releaseSlot slot.toNat s)

/-- RELEASE_CAUSE (R67). -/
def execReleaseCause (slot : Byte) (s : State) : Host.Outcome State Fault Refusal :=
  linkCommand (releaseAnswer slot) s

/-- A wake timer armed by the command (R64). -/
def armedTimer (count : Nat) (periodic : Bool) (w : WakeTimer) : WakeTimer :=
  if count = 0 then { w with count := 0, running := false }
  else { count := count, reload := count, periodic := periodic, running := true }

/-- Arm Timer at its take (R64, R199). -/
def armAnswer (timer : Byte) (count : BitVec 24) (mode : Byte) (s : State) : Answer :=
  if decide (1 < timer.toNat) || decide (1 < mode.toNat) then outOfRange s
  else if !s.fixed then wrongState s
  else done (setTimer timer.toNat (armedTimer count.toNat (mode == 1) (s.timer timer.toNat)) s)

/-- ARM_TIMER (R64). -/
def execArmTimer (timer : Byte) (count : BitVec 24) (mode : Byte) (s : State) : Host.Outcome State Fault Refusal :=
  linkCommand (armAnswer timer count mode) s

/-! ## Census (R171, R179) -/

/-- The census starts, Waiting with no Census want held or Running (R171, R172). -/
def censusBegin (level : Level) (s : State) : State :=
  let s := s.withCu { s.cu with list := [], disturbed := false, truncated := false, level := level }
  if s.otherCensus || decide (0 < s.cu.holdOff) then withdrawCensus (s.withCu { s.cu with state := .waiting })
  else censusRun s

/-- Start Census at its take (R171). -/
def startCensusAnswer (level : Byte) (s : State) : Answer :=
  if level == 0 || decide (7 < level.toNat) then outOfRange s
  else if s.mc.state ≠ .member then wrongState s
  else if s.cu.state = .running ∨ s.cu.state = .waiting ∨ s.cu.closeOwed = true then wrongState s
  else done (censusBegin (Fin.ofNat 8 level.toNat) s)

/-- START_CENSUS (R171). -/
def execStartCensus (level : Byte) (s : State) : Host.Outcome State Fault Refusal :=
  linkCommand (startCensusAnswer level) s

/-- Abandon Census at its take (R179). -/
def abandonAnswer (s : State) : Answer :=
  match s.cu.state with
  | .running => done (s.withCu { s.cu with state := .abandoned, closeOwed := true })
  | .waiting => done (s.withCu { s.cu with state := .abandoned })
  | .idle | .complete | .abandoned => wrongState s

/-- ABANDON_CENSUS (R179). -/
def execAbandonCensus (s : State) : Host.Outcome State Fault Refusal := linkCommand abandonAnswer s

/-! ## Module (R117, R120, R128) -/

/-- Hello at its take (R117, R131). -/
def helloAnswer (s : State) : Answer :=
  match s.mpc.state with
  | .on => done s
  | .powering => if s.mpc.frozen then wrongState s else done (powerUpDone s)
  | .off | .parking | .cut => wrongState s

/-- HELLO (R117). -/
def execHello (s : State) : Host.Outcome State Fault Refusal := linkCommand helloAnswer s

/-- Park at its take (R120, R131). -/
def parkAnswer (s : State) : Answer :=
  match s.mpc.state with
  | .parking => if s.mpc.frozen then wrongState s else done (parkDone s)
  | .off | .powering | .on | .cut => wrongState s

/-- PARK (R120). -/
def execPark (s : State) : Host.Outcome State Fault Refusal := linkCommand parkAnswer s

/-- Clear Cut at its take (R128); the evaluation after a Cut is none while frozen (R115). -/
def clearCutAnswer (s : State) : Answer :=
  if !s.fixed then wrongState s
  else if s.mpc.state = .cut then done (evaluateNeed (leaveCut s))
  else done (setLoud 0 s)

/-- CLEAR_CUT (R128). -/
def execClearCut (s : State) : Host.Outcome State Fault Refusal := linkCommand clearCutAnswer s

/-! ## Notices and Rejoin (R191, R51) -/

/-- Request Refill at its take (R191). -/
def refillAnswer (s : State) : Answer :=
  if s.fixed then done (raiseStatus (s.withPl { s.pl with refill := true })) else wrongState s

/-- REQUEST_REFILL (R191). -/
def execRequestRefill (s : State) : Host.Outcome State Fault Refusal := linkCommand refillAnswer s

/-- Request Restore at its take (R191). -/
def restoreAnswer (s : State) : Answer :=
  if s.fixed then done (raiseStatus (s.withPl { s.pl with restore := true })) else wrongState s

/-- REQUEST_RESTORE (R191). -/
def execRequestRestore (s : State) : Host.Outcome State Fault Refusal := linkCommand restoreAnswer s

/-- Rejoin at its take (R51). -/
def rejoinAnswer (s : State) : Answer :=
  match s.mc.state with
  | .isolated => done (enterJoining s)
  | .degraded => done (raiseJoin (s.withMc { s.mc with rejoin := none }))
  | .unconfigured | .joining | .member => wrongState s

/-- REJOIN (R51). -/
def execRejoin (s : State) : Host.Outcome State Fault Refusal := linkCommand rejoinAnswer s

end Sys2Proof.Machine
end

