-- ==== Sys2Proof/Machine/Starts.lean ====
section
/-! DEFINITION. The starts and the reset pin (R3, R39, R41, R60, R85, R111, R150, R152, R169, R170, R193). -/

namespace Sys2Proof.Machine

/-- Every block at its cold-start values (R3, R39, R60, R85, R111, R150, R152, R169, R186, R193). The pins keep the
levels outside drives, with RST_N released, and the model's own fields stand. -/
def coldState (s : State) : State :=
  { lif := .cold, re := .cold, mc := .cold, ct := .cold s.pins.sns, ev := .cold, mpc := .cold
    mu := { Mu.cold with conversions := s.mu.conversions }, da := .cold, cu := .cold, pl := .cold, pins := { s.pins with rstN := true }, time := s.time
    pending := s.pending }

/-- COLD_START (R39). -/
def execColdStart (s : State) : Host.Outcome State Fault Refusal := .next (coldState s)

/-- The module state after a warm start: Powering and Parking are taken as On (R111). -/
def ModuleState.afterWarm : ModuleState → ModuleState
  | .powering | .parking | .on => .on
  | .off => .off
  | .cut => .cut

/-- The power record after a warm start (R111): the outputs as before, the need named by the rails that are on. -/
def Mpc.warm (m : Mpc) (c : Store) : Mpc :=
  { m with
    state := m.state.afterWarm, frozen := true, hello := none, grace := none
    need := if m.railb then .ab else if m.raila then .a else .empty
    quietDelay := if m.raila then none else tenths c.quietDelayCode }

/-- The MU after a warm start (R150). -/
def Mu.warm (m : Mu) (c : Store) : Mu :=
  { Mu.cold with
    quietRecord := m.quietRecord, deficit := m.deficit, batteryLow := m.batteryLow
    batteryTimer := some (c.batteryInterval .rest), conversions := m.conversions }

/-- The DA's record after a warm start, before its grades are recomputed (R152). -/
def Da.warm (d : Da) (raila : Bool) : Da :=
  { Da.cold with
    spent := d.spent, exhausted := d.exhausted
    quietTicks := if raila then none else some 0, phase := if raila then some 0 else none }

/-- The CT after a warm start (R60): slots from the fixed configuration, wake timers kept, filtered levels from the
first sample. -/
def Ct.warm (t : Ct) (c : Store) (sns : List Bool) : Ct :=
  { slots := c.loadSlots, sense := Sense.firstSamples sns, timers := t.timers, offers := [] }

/-- The membership record after a warm start (R39). -/
def Mc.warm (m : Mc) : Mc := { Mc.cold with state := .joining, number := m.number, digest := m.digest }

/-- A warm start (R41): Joining with a Join want, the LIF Seeking, the module frozen, and p recomputed without event
or want (R164). -/
def warmState (s : State) : State :=
  regrade
    { lif := { Lif.cold with state := .seeking }
      re := { Re.cold with join := { held := true, renewed := false } }
      mc := s.mc.warm, ct := s.ct.warm s.pl.store s.pins.sns, ev := .cold, mpc := s.mpc.warm s.pl.store
      mu := s.mu.warm s.pl.store, da := s.da.warm s.mpc.raila, cu := .cold
      pl := { Pl.cold with store := s.pl.store }
      pins := { s.pins with rstN := true }, time := s.time, pending := s.pending }

/-- WARM_START (R41); a cold start while the configuration is not fixed (R39). -/
def execWarmStart (s : State) : Host.Outcome State Fault Refusal :=
  .next (if s.fixed then warmState s else coldState s)

/-- RST_N goes low (R3, R149, R150): the drive is released, the LIF is Silent, the round is dropped without a report,
the oscillator is off and its requests are aborted, and the transaction in progress is lost. That the LIF's counts are
0 and its flags clear from here on is the model's choice (log 28). -/
def resetLow (s : State) : State :=
  let s := s.withLif { s.lif.leave .silent with idleRun := 0, assertedRun := 0 }
  let s := s.withRe { s.re with record := none, named := none }
  let s := s.withMu { s.mu with
    clock := .stopped, startTime := none, reqBattery := false, reqQuiet := false, reqDrain := false
    inFlight := none }
  let s := setTxn none s
  s.withPins { s.pins with rstN := false }

/-- RST_N_LOW (R3). -/
def execRstNLow (s : State) : Host.Outcome State Fault Refusal := .next (resetLow s)

end Sys2Proof.Machine
end

