-- ==== Sys2Proof/Machine/Tick.lean ====
section
/-! DEFINITION. One slow-clock period: what happens with the clock alone, when no command waits (DESIGN CHOICE, log 1).
The order inside the period is the model's (log 3). -/

namespace Sys2Proof.Machine

/-! ## The wake line (spec 01) -/

/-- The RE asks for a start once the idle run has reached the start offset (R32). -/
def requestDue (s : State) : State :=
  if s.lif.state = .idle ∧ startOffset s.mc.number ≤ s.lif.idleRun then startRequest none s else s

/-- The level of the line: asserted when this station or a peer drives it (R1). -/
def State.line (s : State) : Bool := s.lif.drive || s.pins.wakePeers

/-! ## Sense inputs (R61) -/

/-- One sample of a sense input. -/
def sampleSense (k : Nat) (s : State) : State :=
  let f := s.ct.sense.getD k ⟨false, 0⟩
  let raw := s.pins.sns.getD k false
  if raw = f.filtered then s.withCt { s.ct with sense := s.ct.sense.set k { f with run := 0 } }
  else if s.settings.filterLength k ≤ f.run + 1 then filteredEdge k raw s
  else s.withCt { s.ct with sense := s.ct.sense.set k { f with run := f.run + 1 } }

/-! ## Countdowns in slow-clock periods -/

/-- The sample phase (R154). -/
def countPhase (s : State) : State :=
  match s.da.phase with
  | some n =>
    if s.settings.samplePeriod ≤ n + 1 then sampleBoundary s else s.withDa { s.da with phase := some (n + 1) }
  | none => s

/-- The link hold (R133). -/
def countLinkHold (s : State) : State :=
  if s.mu.linkHold ≤ 1 then linkHoldRunsOut s else s.withMu { s.mu with linkHold := s.mu.linkHold - 1 }

/-- The limit of 8 ms on an attempt (R135; log 15). -/
def countSettling (s : State) : State :=
  match s.mu.startTime with
  | some t => if s.mu.clock = .settling ∧ t + Config.settleLimit ≤ s.time then clockFails s else s
  | none => s

/-- The quiet-delay timer (R129). -/
def countQuietDelay (s : State) : State :=
  match s.mpc.quietDelay with
  | some n => if n ≤ 1 then quietDelayRunsOut s else s.withMpc { s.mpc with quietDelay := some (n - 1) }
  | none => s

/-- The grace timer, stopped while frozen (R121, R131). -/
def countGrace (s : State) : State :=
  match s.mpc.grace with
  | some n =>
    if s.mpc.frozen then s
    else if n ≤ 1 then graceRunsOut s else s.withMpc { s.mpc with grace := some (n - 1) }
  | none => s

/-- The hello timer, stopped while frozen (R118, R131). -/
def countHello (s : State) : State :=
  match s.mpc.hello with
  | some n =>
    if s.mpc.frozen then s
    else if n ≤ 1 then helloRunsOut s else s.withMpc { s.mpc with hello := some (n - 1) }
  | none => s

/-! ## Countdowns in ticks -/

/-- A cause's countdown (R69, R71). -/
def countSlot (i : Nat) (s : State) : State :=
  let c := s.slot i
  match c.state with
  | .pending =>
    if c.patience = 0 then s
    else if c.countdown ≤ 1 then patienceRunsOut i s else setSlot i { c with countdown := c.countdown - 1 } s
  | .lingering =>
    if c.countdown ≤ 1 then lingerRunsOut i s else setSlot i { c with countdown := c.countdown - 1 } s
  | .disabled | .idle | .held => s

/-- A wake timer (R63). -/
def countWakeTimer (t : Nat) (s : State) : State :=
  let w := s.timer t
  if w.running then
    (if w.count ≤ 1 then wakeTimerRunsOut t s else setTimer t { w with count := w.count - 1 } s)
  else s

/-- The rejoin timer (R49). -/
def countRejoin (s : State) : State :=
  match s.mc.rejoin with
  | some n => if n ≤ 1 then rejoinRunsOut s else s.withMc { s.mc with rejoin := some (n - 1) }
  | none => s

/-- The heartbeat timer (R105). -/
def countHeartbeat (s : State) : State :=
  match s.ev.heartbeat with
  | some n => if n ≤ 1 then heartbeatRunsOut s else s.withEv { s.ev with heartbeat := some (n - 1) }
  | none => s

/-- The settle timer (R102). -/
def countSettle (s : State) : State :=
  match s.ev.settle with
  | some n => if n ≤ 1 then settleRunsOut s else s.withEv { s.ev with settle := some (n - 1) }
  | none => s

/-- The battery timer (R141). -/
def countBattery (s : State) : State :=
  match s.mu.batteryTimer with
  | some n => if n ≤ 1 then batteryTimerRunsOut s else s.withMu { s.mu with batteryTimer := some (n - 1) }
  | none => s

/-- The quiet-interval timer (R142). -/
def countQuietInterval (s : State) : State :=
  match s.mu.quietTimer with
  | some n => if n ≤ 1 then quietIntervalRunsOut s else s.withMu { s.mu with quietTimer := some (n - 1) }
  | none => s

/-- The age of the exclusion record (R170). -/
def countExclusion (s : State) : State :=
  match s.cu.exclusion with
  | some e =>
    if e.age ≤ 1 then exclusionRunsOut s else s.withCu { s.cu with exclusion := some { e with age := e.age - 1 } }
  | none => s

/-- The census hold-off (R172). -/
def countHoldOff (s : State) : State :=
  if s.cu.holdOff ≤ 1 then holdOffRunsOut s else s.withCu { s.cu with holdOff := s.cu.holdOff - 1 }

/-- The quiet tick count (R158). -/
def countQuietTicks (s : State) : State :=
  s.withDa { s.da with quietTicks := s.da.quietTicks.map fun n => min (n + 1) Config.countMax }

/-! ## The period -/

/-- What counts in slow-clock periods. -/
def periodCounts : List (State → State) :=
  [countPhase, countLinkHold, countSettling, countQuietDelay, countGrace, countHello]

/-- The decisions that were due before the period began (R55). -/
def takeDecisionsIf (due : Bool) (s : State) : State := if due then takeDueDecisions s else s

/-- What a period begins with: what ran before it counts, so that nothing the period starts has a count in it (R154),
and then come the decisions that were due, the start request and the drive value. -/
def periodBegins (due : Bool) : List (State → State) :=
  closeRound :: periodCounts ++ [takeDecisionsIf due, requestDue, driveForPeriod]

/-- What counts in timer ticks. -/
def tickCounts : List (State → State) :=
  ([0, 1, 2, 3, 4, 5, 6, 7, 8, 9, 10, 11, 12, 13, 14, 15].map countSlot)
    ++ [countWakeTimer 0, countWakeTimer 1, countRejoin, countHeartbeat, countSettle, countQuietTicks,
        countBattery, countQuietInterval, countExclusion, countHoldOff]

/-- What is read at the end of a period, and the fast clock's demand (R134, R137). -/
def periodEnds : List (State → State) :=
  [fun s => watchLine s.line s, sampleSense 0, sampleSense 1, sampleSense 2, sampleSense 3, stopIdleClock,
   startOnDemand]

/-- Effects taken one after the other. -/
def inOrder (fs : List (State → State)) (s : State) : State := fs.foldl (fun t f => f t) s

/-- The period that `time` numbers ends at a tick boundary (spec 00, "Time"; log 14). -/
def State.atTick (s : State) : Bool := s.time % Config.tickPeriods == 0

/-- One slow-clock period; nothing happens in it while RST_N is low (log 28). -/
def slowPeriod (s : State) : State :=
  if s.pins.rstN then
    let s := inOrder (periodBegins (s.mc.decisionDue || s.mc.restDue)) (s.withTime (s.time + 1))
    inOrder periodEnds (if s.atTick then inOrder tickCounts s else s)
  else s.withTime (s.time + 1)

end Sys2Proof.Machine
end

