-- ==== Sys2Proof/Machine/Dispatch.lean ====
section
/-! DEFINITION. One arm for each command, each one call of its meaning. -/

namespace Sys2Proof.Machine

/-- The effect of a command on everything but the queue. -/
def exec (i : Instr) (s : State) : Host.Outcome State Fault Refusal :=
  match i with
  | .coldStart => Sys2Proof.Machine.execColdStart s
  | .warmStart => Sys2Proof.Machine.execWarmStart s
  | .rstNLow => Sys2Proof.Machine.execRstNLow s
  | .seekingEnd => Sys2Proof.Machine.execSeekingEnd s
  | .startRequest fault => Sys2Proof.Machine.execStartRequest fault s
  | .startPulseSeen => Sys2Proof.Machine.execStartPulseSeen s
  | .startAccepted => Sys2Proof.Machine.execStartAccepted s
  | .glitch => Sys2Proof.Machine.execGlitch s
  | .round stretch samples closed => Sys2Proof.Machine.execRound stretch samples closed s
  | .stuckLine => Sys2Proof.Machine.execStuckLine s
  | .stuckLineCleared => Sys2Proof.Machine.execStuckLineCleared s
  | .rejoinTimerExpiry => Sys2Proof.Machine.execRejoinTimerExpiry s
  | .localDecision => Sys2Proof.Machine.execLocalDecision s
  | .senseFilteredEdge input level => Sys2Proof.Machine.execSenseFilteredEdge input level s
  | .wakeTimerExpiry timer => Sys2Proof.Machine.execWakeTimerExpiry timer s
  | .patienceExpiry slot => Sys2Proof.Machine.execPatienceExpiry slot s
  | .lingerExpiry slot => Sys2Proof.Machine.execLingerExpiry slot s
  | .heartbeatExpiry => Sys2Proof.Machine.execHeartbeatExpiry s
  | .settleExpiry => Sys2Proof.Machine.execSettleExpiry s
  | .helloTimerExpiry => Sys2Proof.Machine.execHelloTimerExpiry s
  | .graceExpiry => Sys2Proof.Machine.execGraceExpiry s
  | .quietDelayExpiry => Sys2Proof.Machine.execQuietDelayExpiry s
  | .clockConfirmed => Sys2Proof.Machine.execClockConfirmed s
  | .clockSettleTimeout => Sys2Proof.Machine.execClockSettleTimeout s
  | .clockOutOfTolerance => Sys2Proof.Machine.execClockOutOfTolerance s
  | .linkHoldExpiry => Sys2Proof.Machine.execLinkHoldExpiry s
  | .batteryTimerExpiry => Sys2Proof.Machine.execBatteryTimerExpiry s
  | .quietIntervalExpiry => Sys2Proof.Machine.execQuietIntervalExpiry s
  | .conversionEnd input => Sys2Proof.Machine.execConversionEnd input s
  | .sampleBoundary => Sys2Proof.Machine.execSampleBoundary s
  | .exclusionAgeOut => Sys2Proof.Machine.execExclusionAgeOut s
  | .holdOffEnd => Sys2Proof.Machine.execHoldOffEnd s
  | .linkSelect => Sys2Proof.Machine.execLinkSelect s
  | .linkDeselect clocked => Sys2Proof.Machine.execLinkDeselect clocked s
  | .unknownCommand byte => Sys2Proof.Machine.execUnknownCommand byte s
  | .readStationStatus => Sys2Proof.Machine.execReadStationStatus s
  | .readCauseTable => Sys2Proof.Machine.execReadCauseTable s
  | .readEpisodeTable => Sys2Proof.Machine.execReadEpisodeTable s
  | .readDrainRecord => Sys2Proof.Machine.execReadDrainRecord s
  | .readCensus => Sys2Proof.Machine.execReadCensus s
  | .readAndClearEvents => Sys2Proof.Machine.execReadAndClearEvents s
  | .readConfigSection ident => Sys2Proof.Machine.execReadConfigSection ident s
  | .writeConfigSection ident body => Sys2Proof.Machine.execWriteConfigSection ident body s
  | .fix => Sys2Proof.Machine.execFix s
  | .postCause slot cause linger patience rails => Sys2Proof.Machine.execPostCause slot cause linger patience rails s
  | .releaseCause slot => Sys2Proof.Machine.execReleaseCause slot s
  | .armTimer timer count mode => Sys2Proof.Machine.execArmTimer timer count mode s
  | .startCensus level => Sys2Proof.Machine.execStartCensus level s
  | .abandonCensus => Sys2Proof.Machine.execAbandonCensus s
  | .hello => Sys2Proof.Machine.execHello s
  | .park => Sys2Proof.Machine.execPark s
  | .clearCut => Sys2Proof.Machine.execClearCut s
  | .requestRefill => Sys2Proof.Machine.execRequestRefill s
  | .requestRestore => Sys2Proof.Machine.execRequestRestore s
  | .rejoin => Sys2Proof.Machine.execRejoin s
  | .assertedPeriodWatchReading => Sys2Proof.Machine.execAssertedPeriodWatchReading s

end Sys2Proof.Machine
end

