-- ==== Sys2Proof/Safety.lean ====
section
/-! DEFINITION. What holds of the station in every state that a run reaches: the invariants the obligations speak of, and
the frame of a step, block by block. Every predicate is decidable on a given state but for the frame. -/

namespace Sys2Proof.Machine

/-! ## Frames -/

/-- The parts of the state. -/
inductive Block where
  | lif | re | mc | ct | ev | mpc | mu | da | cu | pl | pins | time | pending
  deriving DecidableEq, Repr

/-- The two states agree on a part. -/
def agreesOn (b : Block) (s t : State) : Prop :=
  match b with
  | .lif => t.lif = s.lif
  | .re => t.re = s.re
  | .mc => t.mc = s.mc
  | .ct => t.ct = s.ct
  | .ev => t.ev = s.ev
  | .mpc => t.mpc = s.mpc
  | .mu => t.mu = s.mu
  | .da => t.da = s.da
  | .cu => t.cu = s.cu
  | .pl => t.pl = s.pl
  | .pins => t.pins = s.pins
  | .time => t.time = s.time
  | .pending => t.pending = s.pending

/-- From s to t nothing changes outside the parts named. -/
def changesOnly (bs : List Block) (s t : State) : Prop := ∀ b : Block, b ∉ bs → agreesOn b s t

/-- In the RE and the MC nothing changes but the Status want, and the local decision it makes due (R31, R55). -/
def wantFrame (s t : State) : Prop :=
  t.re = { s.re with status := t.re.status } ∧ t.mc = { s.mc with decisionDue := t.mc.decisionDue }

/-- In the PL the notice requests and the store stand. -/
def noticeFrame (s t : State) : Prop :=
  t.pl.refill = s.pl.refill ∧ t.pl.restore = s.pl.restore ∧ t.pl.store = s.pl.store

/-! ## What Fix checks (R188, R200) -/

/-- Identity: a station number of 1 to 63. -/
def Store.identitySound (c : Store) : Prop := c.stationNumber ≠ 0

/-- Profile (R52): no floor below that of the grade below it, and both codes in 1 to 16. -/
def Store.profileSound (c : Store) : Prop :=
  (∀ g h : Grade, h.val = g.val + 1 → c.floorOf g ≤ c.floorOf h)
    ∧ 1 ≤ c.heartbeatCode ∧ c.heartbeatCode ≤ 16 ∧ 1 ≤ c.settleCode ∧ c.settleCode ≤ 16

/-- Causes (R59): every slot with a level has a linger, a defined rails code (log 19) and, for the two wake timers, the
Momentary mode; every trigger edge is defined; and a periodic timer that is armed has a reload. -/
def Store.causesSound (c : Store) : Prop :=
  (∀ i < 7, causeLevel (c.slotCause i) ≠ 0 → c.slotLinger i ≠ 0
      ∧ (c.slotRails i = 0 ∨ c.slotRails i = 1 ∨ c.slotRails i = 3)
      ∧ (i = 4 ∨ i = 5 → causeMode (c.slotCause i) = .momentary))
    ∧ (∀ k < 4, c.edgeCode k ≠ 3)
    ∧ ∀ t < 2, c.timerMode t = 0 ∨ c.timerMode t = 1 ∧ (1 ≤ c.timerCount t → c.timerReload t ≠ 0)

/-- Attendance (R113): at most eight rows, each from a level of 1 to 7 up to one not below it, with rails A or A+B. -/
def Store.attendanceSound (c : Store) : Prop :=
  c.rowCount ≤ 8 ∧ ∀ i < c.rowCount, (c.rowAt i).low ≠ 0 ∧ (c.rowAt i).low ≤ (c.rowAt i).high
    ∧ ((c.rowAt i).rails = 1 ∨ (c.rowAt i).rails = 3)

/-- Module (R113, R151). -/
def Store.moduleSound (c : Store) : Prop :=
  1 ≤ c.helloCode ∧ 1 ≤ c.graceCode ∧ 1 ≤ c.quietDelayCode ∧ c.quietDelayCode ≤ 25 ∧ 1 ≤ c.quietIntervalCode
    ∧ 1 ≤ c.loudLimit ∧ c.loudLimit ≤ 7 ∧ (byteAt c.modul 5).toNat ≤ 1 ∧ c.overrideLevel ≤ 7

/-- Drain (R151, R153). -/
def Store.drainSound (c : Store) : Prop :=
  1 ≤ (halfAt c.drain 0).toNat ∧ c.shift ≤ 15
    ∧ (∀ g h : Grade, 1 ≤ g → h.val = g.val + 1 → c.balanceThreshold h ≤ c.balanceThreshold g)
    ∧ (∀ g h : Grade, 1 ≤ g → h.val = g.val + 1 → c.rateThreshold g ≤ c.rateThreshold h)
    ∧ c.quietFloor ≤ 4095 ∧ 1 ≤ c.awakeBatteryCode ∧ 1 ≤ c.restBatteryCode

/-! ## The converter (R138) -/

/-- A conversion may give the input v the code x, on a channel of this LSB: 0 at or below zero, 4,095 above full scale,
the step at a step's own input, and between two steps either of them (which is free, log 34). -/
def convertsTo (lsb : Nat) (v : Int) (x : BitVec 12) : Prop :=
  (v ≤ 0 → x = 0) ∧ ((4095 * lsb : Nat) < v → x = 4095)
    ∧ (∀ k ≤ 4095, v = (k * lsb : Nat) → x.toNat = k)
    ∧ ∀ k < 4095, (k * lsb : Nat) < v → v < ((k + 1) * lsb : Nat) → x.toNat = k ∨ x.toNat = k + 1

/-! ## The link -/

/-- A transaction is open, the link is live and the fast clock runs: the next link command is taken (R181 to R183). -/
def State.linkReady (s : State) : Prop := s.linkOpen = true ∧ s.mu.clock = .running

/-- The state with an answer formed at a take: the status byte and the response bytes (R182). -/
def State.withAnswer (s : State) (status : Byte) (response : List Byte) : State :=
  s.withPl { s.pl with txn := some (.taken (status :: response)) }

/-! ## The switches (R112) -/

/-- The outputs are those of the module state (R112, the table of section 6.1). -/
def Mpc.outputsAgree (m : Mpc) : Bool :=
  (m.feed == (m.state != .cut))
    && (m.raila == (m.state == .powering || m.state == .on || m.state == .parking))
    && (m.railb == (m.state == .on && m.need == .ab))

def State.railsInv (s : State) : Prop := s.mpc.outputsAgree = true

/-! ## The episode table (R82, R84) -/

/-- Levels 1 to 7 in strictly ascending order, and an entry suspended exactly when its level is below E. -/
def tableOk (t : List Entry) : Prop :=
  t.Pairwise (fun x y => x.level < y.level) ∧ (∀ x ∈ t, x.level ≠ 0)
    ∧ ∀ x ∈ t, x.suspended = decide (x.level < topExclusive t)

def State.tableInv (s : State) : Prop := tableOk s.ev.table

/-! ## The line (R1, R3, R4, section 1.3) -/

/-- The drive value is released outside Pulse and Round; the LIF is Silent in Unconfigured and in Isolated and while
RST_N is low. -/
def State.lineInv (s : State) : Prop :=
  (s.lif.state ≠ .pulse ∧ s.lif.state ≠ .round → s.lif.drive = false)
    ∧ (s.mc.state = .unconfigured ∨ s.mc.state = .isolated → s.lif.state = .silent)
    ∧ (s.pins.rstN = false → s.lif.state = .silent)

/-! ## The causes (R58) -/

/-- A slot is Disabled exactly when its level is 0, and only a Pending cause is offered. -/
def Cause.ok (c : Cause) : Bool :=
  ((c.state == .disabled) == (c.level == 0)) && (!c.offered || c.state == .pending)

def State.causesInv (s : State) : Prop := s.ct.slots.length = 16 ∧ ∀ c ∈ s.ct.slots, c.ok = true

/-! ## The census (R169) -/

/-- At most 32 station numbers, none 0, in strictly descending order. -/
def Cu.listOk (c : Cu) : Prop :=
  c.list.length ≤ Config.listMax ∧ c.list.Pairwise (fun a b => b < a) ∧ ∀ a ∈ c.list, a ≠ 0

/-- A station that is not a Member has its census in Idle, Complete or Abandoned and owes no close; until its outcome is
delivered, a round that is not abandoned is followed as a Member exactly by a Member (R17). -/
def State.censusInv (s : State) : Prop :=
  s.cu.listOk
    ∧ (s.mc.state ≠ .member → s.cu.state ≠ .waiting ∧ s.cu.state ≠ .running ∧ s.cu.closeOwed = false)
    ∧ ∀ r, s.re.record = some r → s.lif.state ≠ .closing → r.abandoned = false →
        (r.role = .member ↔ s.mc.state = .member)

/-! ## Ranges (R2, R5, R38, R125, R133, R152, R169, R170) -/

def State.rangesInv (s : State) : Prop :=
  s.lif.idleRun ≤ Config.idleRunMax ∧ s.re.voids < Config.voidRun ∧ s.mpc.loud ≤ 7
    ∧ s.mu.linkHold ≤ Config.linkHoldPeriods ∧ s.da.window.length = 16 ∧ s.da.filtered ≤ 65535
    ∧ s.da.spent ≤ Config.spentMax ∧ (∀ n, s.da.quietTicks = some n → n ≤ Config.countMax)
    ∧ s.cu.holdOff ≤ Config.twoSeconds ∧ (∀ e, s.cu.exclusion = some e → e.age ≤ Config.twoSeconds)

/-- All of them together. -/
def State.inv (s : State) : Prop :=
  s.railsInv ∧ s.tableInv ∧ s.lineInv ∧ s.causesInv ∧ s.censusInv ∧ s.rangesInv

end Sys2Proof.Machine
end

