-- ==== Sys2Proof/WellFormed.lean ====
section
/-! DEFINITION. Which commands are well formed. -/

namespace Sys2Proof

/-- A command is well formed when its operands are ones the part can meet:
a round's stretch is one that a start can have (R8), an unknown command byte names no command (R184), and
a Write Config Section carries exactly the bytes that R197 counts as its arguments. -/
def Instr.wellFormed : Instr → Bool
  | .round stretch _ _ => decide (stretch < Config.stuckPeriods)
  | .unknownCommand byte => (linkCommandOf byte).isNone
  | .writeConfigSection ident body => body.length == (bodyLength ident).getD 0
  | .coldStart | .warmStart | .rstNLow | .seekingEnd | .startRequest _ | .startPulseSeen | .startAccepted
  | .glitch | .stuckLine | .stuckLineCleared | .rejoinTimerExpiry | .localDecision
  | .senseFilteredEdge _ _ | .wakeTimerExpiry _ | .patienceExpiry _ | .lingerExpiry _ | .heartbeatExpiry
  | .settleExpiry | .helloTimerExpiry | .graceExpiry | .quietDelayExpiry | .clockConfirmed
  | .clockSettleTimeout | .clockOutOfTolerance | .linkHoldExpiry | .batteryTimerExpiry
  | .quietIntervalExpiry | .conversionEnd _ | .sampleBoundary | .exclusionAgeOut | .holdOffEnd
  | .linkSelect | .linkDeselect _ | .assertedPeriodWatchReading
  | .readStationStatus | .readCauseTable | .readEpisodeTable | .readDrainRecord | .readCensus | .readAndClearEvents | .readConfigSection _ | .fix | .postCause _ _ _ _ _
  | .releaseCause _ | .armTimer _ _ _ | .startCensus _ | .abandonCensus | .hello | .park | .clearCut | .requestRefill | .requestRestore | .rejoin => true

end Sys2Proof
end

