-- ==== Sys2Proof/Certificates/Slice0/Obligations.lean ====
section
/-! DEFINITION. The statements for the provers. -/

section

open Sys2Proof Sys2Proof.Machine

/-! ## The step -/

/-- A step with a command at the front of the queue is that command's effect on the state with the queue's rest. -/
def Obligations.StepRunsTheFrontCommand : Prop :=
  ∀ (s : State) (c : Instr) (rest : List Instr), step (s.withPending (c :: rest)) = exec c (s.withPending rest)

/-- On an empty queue one slow-clock period passes (the model's choice, logs 1 and 14), and while RST_N is low nothing
else happens in it (log 28). Otherwise the effects of a period come in the model's order (log 3), the tick countdowns
where its number is a multiple of 512. In them the period watch counts the idle run and the asserted run of Seeking,
Idle and Stuck and none in Silent (R2, R5, R6, R8, R15), a sense filter counts its samples (R61), and every countdown
above 1 goes down by one: slots (R69, R71), wake timers (R63), rejoin (R49), heartbeat (R105), settle (R102), battery
and quiet interval (R141, R142), exclusion age and hold-off (R170, R172), link hold (R133), quiet delay (R129), and
grace and hello unless frozen (R131); the sample phase goes up (R154). -/
def Obligations.EmptyQueueStepIsOnePeriod : Prop :=
  (∀ s : State, s.pending = [] →
    ∃ t, step s = .next t ∧ t.time = s.time + 1 ∧ t.pending = [] ∧ t.pins = s.pins ∧ t.pl.store = s.pl.store
      ∧ (s.pins.rstN = false → t = s.withTime (s.time + 1))
      ∧ (s.pins.rstN = true → ∃ u, u = inOrder (periodBegins (s.mc.decisionDue || s.mc.restDue)) (s.withTime (s.time + 1))
        ∧ t = inOrder periodEnds (if (s.time + 1) % 512 = 0 then inOrder tickCounts u else u))
      ∧ (s.pins.rstN = true → s.lif.drive = false →
        (s.lif.state = .silent → t.lif = s.lif)
        ∧ (s.lif.state = .seeking → s.pins.wakePeers = false → t.lif.idleRun = min (s.lif.idleRun + 1) 65535
          ∧ t.lif.assertedRun = 0 ∧ t.lif.state = (if 1535 ≤ s.lif.idleRun then .idle else .seeking))
        ∧ (s.lif.state = .idle → s.lif.idleRun < 96 → s.pins.wakePeers = false →
          t.lif.state = .idle ∧ t.lif.idleRun = s.lif.idleRun + 1 ∧ t.lif.assertedRun = 0)
        ∧ (s.lif.state = .idle → 32 ≤ s.lif.idleRun → s.lif.idleRun < 96 → s.pins.wakePeers = true →
          t.lif.state = .pulse ∧ t.lif.starter = false ∧ t.lif.stretch = 1 ∧ t.lif.idleRun = 0
          ∧ t.lif.assertedRun = 1)
        ∧ (s.lif.state = .seeking ∨ s.lif.state = .idle ∧ s.lif.idleRun < 32 → s.pins.wakePeers = true →
          s.lif.assertedRun < 160 → t.lif.state = s.lif.state ∧ t.lif.idleRun = 0
            ∧ t.lif.assertedRun = s.lif.assertedRun + 1)
        ∧ (s.lif.state = .stuck → s.pins.wakePeers = true → t.lif.state = .stuck
          ∧ t.lif.assertedRun = s.lif.assertedRun + 1)
        ∧ (s.lif.state = .stuck → s.pins.wakePeers = false → t.lif.state = .seeking ∧ t.lif.idleRun = 0
          ∧ t.lif.assertedRun = 0)))
  ∧ (∀ u : State,
    (∀ k, u.pins.sns.getD k false ≠ (u.ct.sense.getD k ⟨false, 0⟩).filtered →
      (u.ct.sense.getD k ⟨false, 0⟩).run + 1 < u.settings.filterLength k →
      sampleSense k u = u.withCt { u.ct with
        sense := u.ct.sense.set k
          ⟨(u.ct.sense.getD k ⟨false, 0⟩).filtered, (u.ct.sense.getD k ⟨false, 0⟩).run + 1⟩ })
    ∧ (∀ k, u.pins.sns.getD k false ≠ (u.ct.sense.getD k ⟨false, 0⟩).filtered →
      u.settings.filterLength k ≤ (u.ct.sense.getD k ⟨false, 0⟩).run + 1 →
      sampleSense k u = filteredEdge k (u.pins.sns.getD k false) u)
    ∧ (∀ k, u.pins.sns.getD k false = (u.ct.sense.getD k ⟨false, 0⟩).filtered →
      sampleSense k u = u.withCt { u.ct with
        sense := u.ct.sense.set k ⟨(u.ct.sense.getD k ⟨false, 0⟩).filtered, 0⟩ })
    ∧ (∀ i, (u.slot i).state = .pending ∧ (u.slot i).patience ≠ 0 ∨ (u.slot i).state = .lingering →
      1 < (u.slot i).countdown →
      countSlot i u = setSlot i { u.slot i with countdown := (u.slot i).countdown - 1 } u)
    ∧ (∀ n, (u.timer n).running = true → 1 < (u.timer n).count →
      countWakeTimer n u = setTimer n { u.timer n with count := (u.timer n).count - 1 } u)
    ∧ (∀ n, 1 < n → u.mc.rejoin = some n → countRejoin u = u.withMc { u.mc with rejoin := some (n - 1) })
    ∧ (∀ n, 1 < n → u.ev.heartbeat = some n → countHeartbeat u = u.withEv { u.ev with heartbeat := some (n - 1) })
    ∧ (∀ n, 1 < n → u.ev.settle = some n → countSettle u = u.withEv { u.ev with settle := some (n - 1) })
    ∧ (∀ n, 1 < n → u.mu.batteryTimer = some n →
      countBattery u = u.withMu { u.mu with batteryTimer := some (n - 1) })
    ∧ (∀ n, 1 < n → u.mu.quietTimer = some n →
      countQuietInterval u = u.withMu { u.mu with quietTimer := some (n - 1) })
    ∧ (∀ e, 1 < e.age → u.cu.exclusion = some e →
      countExclusion u = u.withCu { u.cu with exclusion := some { e with age := e.age - 1 } })
    ∧ (1 < u.cu.holdOff → countHoldOff u = u.withCu { u.cu with holdOff := u.cu.holdOff - 1 })
    ∧ (1 < u.mu.linkHold → countLinkHold u = u.withMu { u.mu with linkHold := u.mu.linkHold - 1 })
    ∧ (∀ n, 1 < n → u.mpc.quietDelay = some n →
      countQuietDelay u = u.withMpc { u.mpc with quietDelay := some (n - 1) })
    ∧ (∀ n, 1 < n → u.mpc.grace = some n →
      countGrace u = if u.mpc.frozen then u else u.withMpc { u.mpc with grace := some (n - 1) })
    ∧ (∀ n, 1 < n → u.mpc.hello = some n →
      countHello u = if u.mpc.frozen then u else u.withMpc { u.mpc with hello := some (n - 1) })
    ∧ (∀ n, u.da.phase = some n → n + 1 < u.settings.samplePeriod →
      countPhase u = u.withDa { u.da with phase := some (n + 1) }))

/-- Every command answers a next state in every state, and leaves the queue and the period count alone. That an event
command whose state does not stand answers so, and that no command takes a slow-clock period, is the model's choice
(logs 1, 2 and 14). -/
def Obligations.EveryCommandAnswersNext : Prop :=
  ∀ (c : Instr) (s : State), ∃ t, exec c s = .next t ∧ changesOnly
    [.lif, .re, .mc, .ct, .ev, .mpc, .mu, .da, .cu, .pl, .pins] s t

/-- While RST_N is low no command but the starts, RST_N_LOW and the level of LCS_N has an effect (R3, R60, R111, R150,
R152, R191, R193; log 28). -/
def Obligations.ResetPinHoldsTheBlocks : Prop :=
  ∀ (c : Instr) (s : State), s.pins.rstN = false → c ≠ .coldStart → c ≠ .warmStart → c ≠ .rstNLow →
    ∃ t, exec c s = .next t ∧ changesOnly [.pins] s t ∧ t.pins.rstN = false ∧ t.pins.wakePeers = s.pins.wakePeers
      ∧ t.pins.sns = s.pins.sns ∧ (c ≠ .linkSelect → (∀ n, c ≠ .linkDeselect n) → t = s)

/-- An event command whose own state does not stand changes nothing (the model's choice, log 2); a filtered edge to the
level the filter has already shows that level on the pin and changes nothing else (log 26). -/
def Obligations.EventOutOfPlaceChangesNothing : Prop :=
  ∀ s : State,
    (s.lif.state ≠ .seeking → exec .seekingEnd s = .next s)
    ∧ (s.lif.state ≠ .idle → (∀ k, exec (.startRequest k) s = .next s) ∧ exec .startPulseSeen s = .next s)
    ∧ (s.re.join.held = false → s.re.status.held = false → s.re.census.held = false → s.re.rest.held = false →
      ∀ k, exec (.startRequest k) s = .next s)
    ∧ (s.lif.state = .silent ∨ s.lif.state = .seeking ∨ s.lif.state = .round ∨ s.lif.state = .stuck
        ∨ s.lif.state = .pulse ∧ s.re.record ≠ none → exec .startAccepted s = .next s)
    ∧ (s.lif.state ≠ .pulse ∨ s.re.record ≠ none → exec .glitch s = .next s)
    ∧ (s.lif.state ≠ .round → s.lif.state ≠ .closing → s.lif.state ≠ .pulse ∨ s.re.record = none →
      ∀ n xs b, exec (.round n xs b) s = .next s)
    ∧ (s.lif.state ≠ .stuck → exec .stuckLineCleared s = .next s)
    ∧ (s.lif.state = .silent ∨ s.lif.state = .stuck → exec .stuckLine s = .next s)
    ∧ (s.mc.state ≠ .degraded ∨ s.mc.rejoin = none → exec .rejoinTimerExpiry s = .next s)
    ∧ (s.isLocal = false ∨ s.mc.decisionDue = false ∧ s.mc.restDue = false → exec .localDecision s = .next s)
    ∧ (∀ (k : Fin 4) (b : Bool), s.pins.rstN = true → (s.ct.sense.getD k.val ⟨false, 0⟩).filtered = b →
      exec (.senseFilteredEdge k b) s = .next { s with pins := { s.pins with sns := s.pins.sns.set k.val b } })
    ∧ (∀ n : Fin 2, (s.timer n.val).running = false → exec (.wakeTimerExpiry n) s = .next s)
    ∧ (∀ i : Fin 16, (s.slot i.val).state ≠ .pending ∨ (s.slot i.val).patience = 0 →
      exec (.patienceExpiry i) s = .next s)
    ∧ (∀ i : Fin 16, (s.slot i.val).state ≠ .lingering → exec (.lingerExpiry i) s = .next s)
    ∧ (s.ev.heartbeat = none → exec .heartbeatExpiry s = .next s)
    ∧ (s.ev.settle = none → exec .settleExpiry s = .next s)
    ∧ (s.mpc.state ≠ .powering ∨ s.mpc.frozen = true ∨ s.mpc.hello = none → exec .helloTimerExpiry s = .next s)
    ∧ (s.mpc.state ≠ .parking ∨ s.mpc.frozen = true ∨ s.mpc.grace = none → exec .graceExpiry s = .next s)
    ∧ (s.mpc.quietDelay = none → exec .quietDelayExpiry s = .next s)
    ∧ (s.mu.clock ≠ .settling → exec .clockConfirmed s = .next s ∧ exec .clockSettleTimeout s = .next s)
    ∧ (s.mu.clock ≠ .running → exec .clockOutOfTolerance s = .next s)
    ∧ (s.mu.batteryTimer = none → exec .batteryTimerExpiry s = .next s)
    ∧ (s.mu.quietTimer = none → exec .quietIntervalExpiry s = .next s)
    ∧ (s.mu.inFlight = none → ∀ x, exec (.conversionEnd x) s = .next s)
    ∧ (s.da.phase = none → exec .sampleBoundary s = .next s)
    ∧ (s.cu.exclusion = none → exec .exclusionAgeOut s = .next s)

/-! ## The starts -/

/-- After a cold start every block holds the values that R3, R17, R31, R38, R39, R60, R85, R111, R150, R152, R169,
R170, R186, R191 and R193 give. -/
def Obligations.ColdStartGivesTheStartValues : Prop :=
  ∀ s : State, ∃ t, exec .coldStart s = .next t
    ∧ t.lif.state = .silent ∧ t.lif.drive = false
    ∧ t.re.join = ⟨false, false⟩ ∧ t.re.status = ⟨false, false⟩ ∧ t.re.census = ⟨false, false⟩
    ∧ t.re.rest = ⟨false, false⟩ ∧ t.re.record = none ∧ t.re.voids = 0
    ∧ t.mc.state = .unconfigured ∧ t.mc.number = 0 ∧ t.mc.digest = 0 ∧ t.mc.counter = 0
    ∧ t.mc.disagreement = false ∧ t.mc.rejoin = none ∧ t.mc.lastFault = none
    ∧ t.ct.slots.length = 16
    ∧ (∀ c ∈ t.ct.slots, c.state = .disabled ∧ c.level = 0 ∧ c.countdown = 0 ∧ c.opened = none
        ∧ c.offered = false ∧ c.merged = false ∧ c.expiryHeld = false)
    ∧ t.ct.sense.map (·.filtered) = s.pins.sns
    ∧ t.ct.timers = [⟨0, 0, false, false⟩, ⟨0, 0, false, false⟩]
    ∧ t.ev.table = [] ∧ t.ev.net = .rest ∧ t.ev.grade = 0 ∧ t.ev.alarm = 0 ∧ t.floor = 0
    ∧ t.ev.heartbeat = none ∧ t.ev.settle = none
    ∧ t.mpc.state = .on ∧ t.mpc.feed = true ∧ t.mpc.raila = true ∧ t.mpc.railb = false ∧ t.mpc.frozen = false
    ∧ t.mpc.need = .empty ∧ t.mpc.loud = 0 ∧ t.mpc.hello = none ∧ t.mpc.grace = none ∧ t.mpc.quietDelay = none
    ∧ t.mu.clock = .stopped ∧ t.mu.linkHold = 0 ∧ t.mu.clockFault = false ∧ t.mu.anyRequest = false
    ∧ t.mu.inFlight = none ∧ t.mu.quietRecord = none ∧ t.mu.deficit = none ∧ t.mu.batteryLow = false
    ∧ t.mu.batteryTimer = none ∧ t.mu.quietTimer = none
    ∧ t.da.window = List.replicate 16 0 ∧ t.da.filtered = 0 ∧ t.da.saturated = false ∧ t.da.spent = 0
    ∧ t.da.quietTicks = none ∧ t.da.exhausted = false ∧ t.da.balanceGrade = 0 ∧ t.da.rateGrade = 0
    ∧ t.da.pressure = 0 ∧ t.da.phase = none
    ∧ t.cu.state = .idle ∧ t.cu.level = 0 ∧ t.cu.list = [] ∧ t.cu.disturbed = false ∧ t.cu.truncated = false
    ∧ t.cu.closeOwed = false ∧ t.cu.reference = false ∧ t.cu.holdOff = 0 ∧ t.cu.exclusion = none
    ∧ t.pl.events = 0 ∧ t.pl.refill = false ∧ t.pl.restore = false ∧ t.pl.store = .defaults
    ∧ t.pins = { s.pins with rstN := true }

/-- After a warm start of a fixed station: the values of the warm columns of R39, R60, R85, R111, R150, R152, R169 and
R170, the grades recomputed without event or want (R164), Joining with its Join want (R41); the switches are kept. A
station that is not fixed takes a cold start (R39). -/
def Obligations.WarmStartGivesTheStartValues : Prop :=
  ∀ s : State,
    (s.fixed = false → exec .warmStart s = exec .coldStart s)
    ∧ (s.fixed = true → ∃ t, exec .warmStart s = .next t
      ∧ t.lif.state = .seeking ∧ t.lif.idleRun = 0 ∧ t.lif.assertedRun = 0 ∧ t.lif.drive = false
      ∧ t.re.join.held = true ∧ t.re.status.held = false ∧ t.re.census.held = false ∧ t.re.rest.held = false
      ∧ t.re.record = none ∧ t.re.voids = 0
      ∧ t.mc.state = .joining ∧ t.mc.number = s.mc.number ∧ t.mc.digest = s.mc.digest ∧ t.mc.counter = 0
      ∧ t.mc.disagreement = false ∧ t.mc.rejoin = none ∧ t.mc.lastFault = none
      ∧ t.ct.slots = s.pl.store.loadSlots ∧ t.ct.timers = s.ct.timers ∧ t.ct.sense.map (·.filtered) = s.pins.sns
      ∧ t.ev.table = [] ∧ t.ev.net = .rest ∧ t.ev.grade = 0 ∧ t.ev.alarm = 0
      ∧ t.floor = s.pl.store.floorOf 0 ∧ t.ev.heartbeat = none ∧ t.ev.settle = none
      ∧ t.mpc.state = s.mpc.state.afterWarm ∧ t.mpc.feed = s.mpc.feed ∧ t.mpc.raila = s.mpc.raila
      ∧ t.mpc.railb = s.mpc.railb ∧ t.mpc.frozen = true ∧ t.mpc.loud = s.mpc.loud
      ∧ t.mpc.need = (if s.mpc.railb then .ab else if s.mpc.raila then .a else .empty)
      ∧ t.mpc.hello = none ∧ t.mpc.grace = none ∧ t.mpc.quietDelay.isSome = !s.mpc.raila
      ∧ t.mu.clock = .stopped ∧ t.mu.linkHold = 0 ∧ t.mu.clockFault = false ∧ t.mu.anyRequest = false
      ∧ t.mu.inFlight = none ∧ t.mu.quietRecord = s.mu.quietRecord ∧ t.mu.deficit = s.mu.deficit
      ∧ t.mu.batteryLow = s.mu.batteryLow ∧ t.mu.batteryTimer = some (256 * s.pl.store.restBatteryCode)
      ∧ t.mu.quietTimer = none
      ∧ t.da.window = List.replicate 16 0 ∧ t.da.filtered = 0 ∧ t.da.saturated = false ∧ t.da.spent = s.da.spent
      ∧ t.da.exhausted = s.da.exhausted ∧ t.da.quietTicks = (if s.mpc.raila then none else some 0)
      ∧ t.da.phase = (if s.mpc.raila then some 0 else none)
      ∧ t.da.balanceGrade = t.balanceGradeNow ∧ t.da.rateGrade = t.rateGradeNow
      ∧ t.da.pressure = max (max t.balanceGradeNow t.rateGradeNow) (if t.mu.batteryLow then 7 else 0)
      ∧ t.cu = {
          state := .idle, level := 0, list := [], disturbed := false, truncated := false, closeOwed := false
          reference := false, holdOff := 0, exclusion := none }
      ∧ t.pl.events = 0 ∧ t.pl.refill = false ∧ t.pl.restore = false ∧ t.pl.store = s.pl.store
      ∧ t.pins = { s.pins with rstN := true })

/-- RST_N low: the drive is released and the LIF Silent with no round (R3), the clock Stopped with no attempt, request or
conversion (R149, R150), and everything else as it stood (R111, R191, R193): the records, timers, ClockFault,
BatteryLow and link hold of the MU, the flags, marks, notices and store of the PL. That the LIF's counts and flags are
0 and clear, and that the transaction in progress is over, is the model's choice (log 28). -/
def Obligations.ResetLowReleasesTheLine : Prop :=
  ∀ s : State, ∃ t, exec .rstNLow s = .next t
    ∧ t.lif.state = .silent ∧ t.lif.drive = false ∧ t.re.record = none
    ∧ t.mu.clock = .stopped ∧ t.mu.anyRequest = false ∧ t.mu.inFlight = none ∧ t.pins.rstN = false
    ∧ t.lif = {
        state := .silent, drive := false, idleRun := 0, assertedRun := 0, stretch := 0, starter := false, driven := 0
        bitPos := 0, period := 0, framing := false, listener := false }
    ∧ t.re = { s.re with record := none, named := none }
    ∧ t.mu = { s.mu with
        clock := .stopped, startTime := none, reqBattery := false, reqQuiet := false, reqDrain := false
        inFlight := none }
    ∧ t.pl = { s.pl with txn := none }
    ∧ t.pins = { s.pins with rstN := false }
    ∧ changesOnly [.lif, .re, .mu, .pl, .pins] s t

/-! ## Invariants -/

/-- The reset state satisfies every invariant. -/
def Obligations.ResetSatisfiesTheInvariants : Prop := State.reset.inv

/-- FEED, RAILA and RAILB are those of the module state at all times (R112). -/
def Obligations.StepKeepsTheSwitches : Prop :=
  ∀ s t : State, s.railsInv → step s = .next t → t.railsInv

/-- The episode table keeps levels 1 to 7, each once and ascending, and an entry is suspended exactly when its level is
below E (R82, R84). -/
def Obligations.StepKeepsTheTable : Prop :=
  ∀ s t : State, s.tableInv → step s = .next t → t.tableInv

/-- The drive value is released outside Pulse and Round; the LIF is Silent in Unconfigured, in Isolated and while RST_N
is low (R1, R3, R4). -/
def Obligations.StepKeepsTheLine : Prop :=
  ∀ s t : State, s.lineInv → step s = .next t → t.lineInv

/-- There are sixteen slots, a slot is Disabled exactly when its level is 0, and only a Pending cause is offered (R58,
R73). -/
def Obligations.StepKeepsTheCauses : Prop :=
  ∀ s t : State, s.causesInv → step s = .next t → t.causesInv

/-- The census list holds at most 32 numbers in strictly descending order, and a station that is not a Member has its
census in Idle, Complete or Abandoned with no close owed (R169); until its outcome is delivered, a round that is not
abandoned is followed as a Member exactly by a Member (R17). -/
def Obligations.StepKeepsTheCensus : Prop :=
  ∀ s t : State, s.censusInv → step s = .next t → t.censusInv

/-- Every count stays in the range that R5, R38, R125, R133, R152, R169 and R170 give it. -/
def Obligations.StepKeepsTheRanges : Prop :=
  ∀ s t : State, s.rangesInv → step s = .next t → t.rangesInv

/-! ## The encoding of link commands -/

/-- Every well-formed link command decodes from the bytes that encode it, every operand at every value (R197). -/
def Obligations.LinkDecodeOfEncode : Prop :=
  ∀ (i : Instr) (bs : List Byte), i.wellFormed = true → encodeLink i = some bs → decodeLink bs = some i

/-! ## The wake line -/

/-- SEEKING_END (R6): Idle, with the idle run at 1,536 or more. That the peers do not drive the line then is the model's
choice (log 26). -/
def Obligations.SeekingEndEntersIdle : Prop :=
  ∀ s : State, s.pins.rstN = true → s.lif.state = .seeking →
    exec .seekingEnd s = .next { s with
      lif := { s.lif with state := .idle, idleRun := max s.lif.idleRun 1536, assertedRun := 0 }
      pins := { s.pins with wakePeers := false } }

/-- START_REQUEST in Idle with a want held (R32, R7): the highest-ranked want is named, the line is driven in Pulse as a
starter with the stretch at 0; a check point that reads released is a drive fault, the LIF is Idle again with the
idle run at 0, and a Member, Joining or Degraded station is Degraded with LineTrouble raised (R47 to R49). -/
def Obligations.StartRequestDrivesThePulse : Prop :=
  ∀ (s : State) (w : RoundType), s.pins.rstN = true → s.lif.state = .idle →
    w = (if s.re.join.held then .join else if s.re.status.held then .status
      else if s.re.census.held then .census else .rest) →
    s.re.join.held = true ∨ s.re.status.held = true ∨ s.re.census.held = true ∨ s.re.rest.held = true →
    exec (.startRequest none) s = .next { s with
        lif := { s.lif with
          state := .pulse, starter := true, stretch := 0, driven := 0, drive := true, assertedRun := 0
          idleRun := max s.lif.idleRun (8 * (12 + s.mc.number.toNat % 8)) }
        re := { s.re with named := some w } }
      ∧ (s.mc.state = .member ∨ s.mc.state = .joining ∨ s.mc.state = .degraded → ∀ k : Fin 6,
        ∃ t, exec (.startRequest (some k)) s = .next t
          ∧ t.lif.state = .idle ∧ t.lif.drive = false ∧ t.lif.starter = false ∧ t.lif.idleRun = 0
          ∧ t.re.record = none ∧ t.mc.state = .degraded ∧ t.mc.lastFault = some .driveFault
          ∧ t.mc.rejoin = some 128 ∧ t.eventSet .lineTrouble = true ∧ t.mc.counter = s.mc.counter
          ∧ t.pins = s.pins ∧ t.pl.store = s.pl.store)

/-- START_PULSE_SEEN in Idle (R8): Pulse as a receiver with the stretch at 1, the idle run before it taken as passed (log
2). GLITCH in Pulse before the start is accepted (R8): Idle with the idle run at 0; where the released reading is a check
point of the own pulse, the fifth of a bit time, it is a drive fault (R7, R47 to R49). The peers' level follows (log
26). -/
def Obligations.PulseSeenAndGlitch : Prop :=
  ∀ s : State, s.pins.rstN = true →
    (s.lif.state = .idle → exec .startPulseSeen s = .next { s with
      lif := { s.lif with
        state := .pulse, starter := false, stretch := 1, driven := 0, idleRun := 0, assertedRun := 1 }
      pins := { s.pins with wakePeers := true } })
    ∧ (s.lif.state = .pulse → s.re.record = none →
      ¬ (s.lif.starter = true ∧ s.lif.stretch < 48 ∧ s.lif.stretch % 8 = 4) → ∃ t, exec .glitch s = .next t
      ∧ t.lif.state = .idle ∧ t.lif.idleRun = 0 ∧ t.lif.drive = false ∧ t.lif.starter = false
      ∧ t.re = { s.re with named := none } ∧ t.pins = { s.pins with wakePeers := false }
      ∧ changesOnly [.lif, .re, .pins] s t)
    ∧ (s.lif.state = .pulse → s.re.record = none →
      s.lif.starter = true → s.lif.stretch < 48 → s.lif.stretch % 8 = 4 → ∃ t, exec .glitch s = .next t
      ∧ t.lif.state = .idle ∧ t.lif.idleRun = 0 ∧ t.lif.drive = false ∧ t.lif.starter = false
      ∧ t.re.record = none ∧ t.pins = { s.pins with wakePeers := false } ∧ t.pl.store = s.pl.store
      ∧ (s.mc.state = .member ∨ s.mc.state = .joining ∨ s.mc.state = .degraded →
        t.mc.state = .degraded ∧ t.mc.lastFault = some .driveFault ∧ t.mc.rejoin = some 128
        ∧ t.eventSet .lineTrouble = true))

/-- START_ACCEPTED (R8, R13, R17): in Pulse or in Idle the RE opens a round record with the role and the starter flag of
this moment, nothing sampled yet; in Closing it is a lost synchronisation, which puts a Member in Degraded. The release
edge that ROUND begins with (R8, R9): Round at bit 0 with the edge's period as its first and the framing flag set after
a stretch of over 64; at a check point of the own pulse it is a drive fault (R7), and after 161 a stuck line (R15). The
model's choices: the start in Idle is taken as a receiver (log 8), the one in Closing whatever the idle run before it
(log 32), and the peers leave the line released after the edge (log 26). -/
def Obligations.StartAcceptedOpensTheRecord : Prop :=
  (∀ s : State, s.pins.rstN = true →
    (s.lif.state = .pulse ∧ s.re.record = none ∨ s.lif.state = .idle → ∃ t r, exec .startAccepted s = .next t
      ∧ t.re.record = some r ∧ t.lif.state = .pulse ∧ 32 ≤ t.lif.stretch
      ∧ r.role = (if s.mc.state = .member then .member else .nonMember)
      ∧ r.starter = (s.lif.state == .pulse && s.lif.starter)
      ∧ r.named = (if r.starter then s.re.named else none)
      ∧ r.rtype = none ∧ r.invalid = false ∧ r.mismatch = false ∧ r.results = [] ∧ r.seg = 0 ∧ r.bit = 0
      ∧ t.re = { s.re with record := some r } ∧ changesOnly [.lif, .re] s t)
    ∧ (s.lif.state = .closing → ∃ t, exec .startAccepted s = .next t
      ∧ t.lif.state = .seeking ∧ t.lif.idleRun = 0 ∧ t.lif.drive = false ∧ t.re.record = none
      ∧ (s.mc.state = .member → t.mc.state = .degraded ∧ t.mc.lastFault = some .lostSync
        ∧ t.mc.rejoin = some 128 ∧ t.eventSet .lineTrouble = true ∧ t.ev.heartbeat = none)
      ∧ (s.mc.state = .joining → t.mc = s.mc ∧ t.re.join.held = s.re.join.held)))
  ∧ (∀ (s : State) (r : RoundRecord) (n m : Nat), s.pins.rstN = true → s.lif.state = .pulse →
      s.re.record = some r → r.seg = 0 → r.bit = 0 → m = max n s.lif.stretch →
      (m < 161 → ¬ (s.lif.starter = true ∧ m < 48 ∧ m % 8 = 4) → ∃ t, exec (.round n [] false) s = .next t
        ∧ t.lif = { s.lif with
            state := .round, drive := false, assertedRun := 0, stretch := 0, starter := false, driven := 0
            bitPos := 0, period := 1, framing := decide (64 < m), listener := false }
        ∧ t.re = { s.re with
            record := some { r with begun := true, drives := false, value := [], lost := false, samples := [] } }
        ∧ t.pins = { s.pins with wakePeers := false } ∧ changesOnly [.lif, .re, .pins] s t)
      ∧ (s.lif.starter = true → m < 48 → m % 8 = 4 → ∃ t, exec (.round n [] false) s = .next t
        ∧ t.lif.state = .idle ∧ t.lif.idleRun = 0 ∧ t.lif.drive = false ∧ t.re.record = none
        ∧ (s.mc.state = .member ∨ s.mc.state = .joining ∨ s.mc.state = .degraded →
          t.mc.state = .degraded ∧ t.mc.lastFault = some .driveFault ∧ t.mc.rejoin = some 128
          ∧ t.eventSet .lineTrouble = true))
      ∧ (161 ≤ m → ∃ t, exec (.round n [] false) s = .next t
        ∧ t.lif.state = .stuck ∧ t.lif.drive = false ∧ t.re.record = none
        ∧ (s.mc.state = .member ∨ s.mc.state = .joining ∨ s.mc.state = .degraded →
          t.mc.state = .degraded ∧ t.mc.lastFault = some .stuckLine)))

/-- STUCK_LINE in every state but Silent and Stuck (R15): released, no round, Stuck, and the report takes a Member,
Joining or Degraded station to Degraded (R47 to R49); STUCK_LINE_CLEARED (R15): Seeking with the idle run at 0. The
level at which the peers leave the line after each is the model's choice (log 26). -/
def Obligations.StuckLineAndItsEnd : Prop :=
  ∀ s : State, s.pins.rstN = true →
    (s.lif.state ≠ .silent → s.lif.state ≠ .stuck → ∃ t, exec .stuckLine s = .next t
      ∧ t.lif.state = .stuck ∧ t.lif.drive = false ∧ t.re.record = none ∧ 161 ≤ t.lif.assertedRun
      ∧ t.pins = { s.pins with wakePeers := true } ∧ t.mc.counter = s.mc.counter
      ∧ (s.mc.state = .member ∨ s.mc.state = .joining ∨ s.mc.state = .degraded →
        t.mc.state = .degraded ∧ t.mc.lastFault = some .stuckLine ∧ t.mc.rejoin = some 128
        ∧ t.eventSet .lineTrouble = true))
    ∧ (s.lif.state = .stuck → exec .stuckLineCleared s = .next { s with
        lif := { s.lif with state := .seeking, idleRun := 0, assertedRun := 0 }
        pins := { s.pins with wakePeers := false } })

/-- ASSERTED_PERIOD_WATCH_READING by LIF state (R2, R5, R8, R13, R15). The idle run is 0 and the asserted run goes up by
one in Seeking, in Idle after an idle run of under 32 periods and in Closing; in Idle after a longer one the station is in
Pulse as a receiver with the stretch at 1; in Pulse the stretch goes up too and at 32 the start is accepted; in Closing 32
of them are a lost synchronisation; in Round the period of the bit passes, the fifth handing the reading to the RE as the
bit's sample (R10, R11, R18, R21) and the eighth ending the bit (R10, R12, R29); at 161 the line is stuck, once; in Stuck
the asserted run goes on; and in Silent nothing changes. The model's choices: the command is one reading taken asserted
in whatever state the LIF is in, with no period counted (log 2); the stretch in Closing counts from the entry to it, and
32 readings of it are a lost synchronisation whatever the idle run before (log 32); and at 161 in the fifth period of a
bit no sample is taken (log 5). -/
def Obligations.AssertedReadingKeepsTheIdleRunAtZero : Prop :=
  ∀ s : State, s.pins.rstN = true →
    (s.lif.state = .silent → exec .assertedPeriodWatchReading s = .next s)
    ∧ (s.lif.state = .seeking ∨ s.lif.state = .idle ∧ s.lif.idleRun < 32 → s.lif.assertedRun < 160 →
      exec .assertedPeriodWatchReading s
        = .next { s with lif := { s.lif with idleRun := 0, assertedRun := s.lif.assertedRun + 1 } })
    ∧ (s.lif.state = .idle → 32 ≤ s.lif.idleRun → exec .assertedPeriodWatchReading s = .next { s with
        lif := { s.lif with
          state := .pulse, starter := false, stretch := 1, driven := 0, idleRun := 0, assertedRun := 1 } })
    ∧ (s.lif.state = .pulse → s.lif.assertedRun < 160 → s.lif.stretch < 31 ∨ s.re.record ≠ none →
      exec .assertedPeriodWatchReading s = .next { s with lif := { s.lif with
        stretch := s.lif.stretch + 1, idleRun := 0, assertedRun := s.lif.assertedRun + 1
        drive := s.lif.starter && decide (s.lif.driven < 48)
        driven := if s.lif.starter && decide (s.lif.driven < 48) then s.lif.driven + 1 else s.lif.driven } })
    ∧ (s.lif.state = .pulse → s.lif.assertedRun < 160 → 31 ≤ s.lif.stretch → s.re.record = none →
      ∃ t r, exec .assertedPeriodWatchReading s = .next t ∧ t.re = { s.re with record := some r }
        ∧ r.starter = s.lif.starter ∧ r.seg = 0 ∧ r.bit = 0 ∧ t.lif.state = .pulse
        ∧ t.lif.stretch = s.lif.stretch + 1 ∧ t.lif.idleRun = 0 ∧ changesOnly [.lif, .re] s t)
    ∧ (s.lif.state = .closing → s.lif.assertedRun < 160 → s.lif.stretch < 31 →
      exec .assertedPeriodWatchReading s = .next { s with lif := { s.lif with
        stretch := s.lif.stretch + 1, idleRun := 0, assertedRun := s.lif.assertedRun + 1 } })
    ∧ (s.lif.state = .closing → s.lif.assertedRun < 160 → 31 ≤ s.lif.stretch →
      ∃ t, exec .assertedPeriodWatchReading s = .next t ∧ t.lif.state = .seeking ∧ t.lif.idleRun = 0
        ∧ t.re.record = none
        ∧ (s.mc.state = .member → t.mc.state = .degraded ∧ t.mc.lastFault = some .lostSync))
    ∧ (s.lif.state = .round → s.lif.assertedRun < 160 → s.lif.period ≠ 4 → s.lif.period ≠ 7 →
      ∃ t, exec .assertedPeriodWatchReading s = .next t ∧ t.lif.state = .round
        ∧ t.lif.period = s.lif.period + 1 ∧ t.lif.assertedRun = s.lif.assertedRun + 1
        ∧ t.lif.idleRun = s.lif.idleRun ∧ t.lif.bitPos = s.lif.bitPos ∧ changesOnly [.lif, .re, .ct] s t)
    ∧ (s.lif.state = .round → s.lif.period = 4 ∨ s.lif.period = 7 →
      ∃ t, exec .assertedPeriodWatchReading s = .next t ∧ t.pins = s.pins ∧ t.pl.store = s.pl.store)
    ∧ (∀ r, s.lif.state = .round → s.lif.period = 4 → s.lif.assertedRun < 160 → s.re.record = some r →
      (r.current = .gap ∨ r.current = .sep ∧ s.lif.framing = true →
        ∃ t, exec .assertedPeriodWatchReading s = .next t ∧ t.lif.state = .seeking ∧ t.lif.idleRun = 0
          ∧ t.lif.drive = false ∧ t.re.record = none
          ∧ (s.mc.state = .member → t.mc.state = .degraded ∧ t.mc.lastFault = some .lostSync))
      ∧ (r.current ≠ .gap → (r.current = .sep → s.lif.framing = false) →
        ∃ t q, exec .assertedPeriodWatchReading s = .next t
          ∧ t.lif = { s.lif with
              period := 5, assertedRun := s.lif.assertedRun + 1
              framing := s.lif.framing || decide (r.current = .sep) }
          ∧ t.re = { s.re with record := some q } ∧ changesOnly [.lif, .re] s t
          ∧ (r.current = .sep ∨ r.current = .void → q = { r with samples := r.samples ++ [true] })
          ∧ (∀ f, r.current = .field f → q = { r with
              samples := r.samples ++ [true]
              lost := r.lost || (f.arbitrated && r.drives && !r.abandoned && !s.lif.drive) })
          ∧ (∀ f, r.current = .confirm f → q = { r with
              samples := r.samples ++ [true]
              mismatch := r.mismatch || (r.drives && !r.abandoned && !s.lif.drive) })))
    ∧ (∀ r, s.lif.state = .round → s.lif.period = 7 → s.lif.assertedRun < 160 → s.re.record = some r →
      (r.current ≠ .void → r.role = .member ∨ (if r.current = .field .typ then natOfBits r.samples ≠ 4
          else r.rtype ≠ some .status) →
        ∃ t q, exec .assertedPeriodWatchReading s = .next t
          ∧ t.lif = { s.lif with
              period := 0, bitPos := s.lif.bitPos + 1, assertedRun := s.lif.assertedRun + 1 }
          ∧ t.re = { s.re with record := some q } ∧ changesOnly [.lif, .re] s t
          ∧ (r.bit + 1 < r.current.width → q = { r with bit := r.bit + 1 })
          ∧ (¬ r.bit + 1 < r.current.width → q.seg = r.seg + 1 ∧ q.bit = 0 ∧ q.begun = false))
      ∧ (r.current = .field .typ → r.bit = 2 → r.role = .nonMember → natOfBits r.samples = 4 →
        ∃ t, exec .assertedPeriodWatchReading s = .next t ∧ t.lif.state = .seeking ∧ t.lif.idleRun = 0
          ∧ t.lif.drive = false ∧ t.mc = s.mc ∧ t.re = { s.re with record := none, named := none })
      ∧ (r.current = .void → r.abandoned = true
          ∨ r.role = .nonMember ∧ (r.rtype ≠ some .join ∨ r.winner = false) →
        ∃ t, exec .assertedPeriodWatchReading s = .next t ∧ t.lif.state = .idle ∧ t.lif.idleRun = 0
          ∧ t.lif.drive = false ∧ t.mc = s.mc ∧ t.re = { s.re with record := none, named := none })
      ∧ (r.current = .void → r.abandoned = false → r.role = .member →
        ∃ t, exec .assertedPeriodWatchReading s = .next t ∧ t.lif.state = .closing ∧ t.lif.idleRun = 0
          ∧ t.lif.drive = false ∧ t.re.record = some r))
    ∧ (s.lif.state = .stuck → exec .assertedPeriodWatchReading s
      = .next { s with lif := { s.lif with idleRun := 0, assertedRun := s.lif.assertedRun + 1 } })
    ∧ (s.lif.state = .seeking ∨ s.lif.state = .idle ∧ s.lif.idleRun < 32 ∨ s.lif.state = .pulse
        ∨ s.lif.state = .round ∨ s.lif.state = .closing → 160 ≤ s.lif.assertedRun →
      ∃ t, exec .assertedPeriodWatchReading s = .next t
        ∧ t.lif.state = .stuck ∧ t.lif.idleRun = 0 ∧ t.lif.drive = false ∧ t.re.record = none
        ∧ (s.mc.state = .member → t.mc.state = .degraded ∧ t.mc.lastFault = some .stuckLine))

/-! ## Rounds -/

/-- ROUND at its void bit, followed as a Member without trouble, the void bit sampled released (R12, R22, R34, R37,
R38): the round commits, the LIF is Idle with the record discarded once the RE has reported it closed (R12, R17), and in
Closing with the record standing until then; the void counter is 0, and the round counter goes up by one, or to the
count result plus one in a Join round. The wants named are cleared but for a renewed one (R33); an offered cause becomes
Held or Lingering with this round as its opened one (R74), and a cause at or below the floor of the committed grade is
curtailed (R76); a Refill clears spent and exhausted (R166), a Restore takes a Cut module out of Cut (R127), and a changed
level of a Running census is Disturbed (R176). That outcome and closing fall in one step, with the idle run at 0, is the
model's choice (log 6), and so is the peers' level (log 26). -/
def Obligations.RoundCommitsAtTheMember : Prop :=
  ∀ (s : State) (r : RoundRecord) (y : RoundType) (n : Nat),
    s.pins.rstN = true → s.mc.state = .member → s.lif.state = .round → s.lif.period = 0 → s.lif.framing = false →
    s.re.record = some r → r.role = .member → r.rtype = some y → r.current = .void → r.bit = 0 →
    r.mismatch = false → r.invalid = false → r.abandoned = false →
    ∃ t, exec (.round n [false] true) s = .next t
      ∧ t.lif.state = .idle ∧ t.lif.idleRun = 0 ∧ t.lif.drive = false ∧ t.re.record = none ∧ t.re.voids = 0
      ∧ t.mc.state = .member ∧ t.pl.store = s.pl.store ∧ t.pins = { s.pins with wakePeers := false }
      ∧ t.mc.counter = (if y = .join then BitVec.ofNat 16 (r.result .count) else s.mc.counter) + 1
      ∧ (y = .status → t.ev.grade.val = r.result .pressure % 8
        ∧ t.ev.alarm = BitVec.ofNat 4 (r.result .alarm)
        ∧ t.ev.table.map (·.level) = levels.filter (holdHas (BitVec.ofNat 7 (r.result .hold)))
        ∧ (∀ x ∈ t.ev.table, x.own = holdHas r.holdDriven x.level)
        ∧ t.pl.refill = (s.pl.refill && !r.refillDriven) ∧ t.pl.restore = (s.pl.restore && !r.restoreDriven)
        ∧ (∀ c ∈ t.ct.slots, c.offered = false)
        ∧ (∀ i, i ≠ 6 →
          ((s.slot i).offered = true → s.settings.floorOf t.ev.grade < (s.slot i).level →
            t.slot i = { s.slot i with
              offered := false, merged := false, expiryHeld := false, opened := some t.mc.counter
              state := if (s.slot i).mode = .level ∧ s.sourceActive i = true then .held else .lingering
              countdown := if (s.slot i).mode = .level ∧ s.sourceActive i = true then 0
                else 4 * (s.slot i).linger.toNat })
          ∧ ((s.slot i).offered = true ∨ (s.slot i).holding = true →
            (s.slot i).level ≤ s.settings.floorOf t.ev.grade → t.slot i = { s.slot i with
              state := .idle, offered := false, merged := false, expiryHeld := false, countdown := 0, opened := none })
          ∧ ((s.slot i).offered = false →
            (s.slot i).holding = false ∨ s.settings.floorOf t.ev.grade < (s.slot i).level → t.slot i = s.slot i))
        ∧ ((∃ c ∈ s.ct.slots, (c.offered = true ∨ c.holding = true) ∧ c.level ≤ s.settings.floorOf t.ev.grade) →
          t.eventSet .causeCurtailed = true ∧ t.re.status.held = true)
        ∧ t.re.status.renewed = false ∧ (s.re.status.held = true → s.re.status.renewed = true → t.re.status.held = true)
        ∧ ((∀ c ∈ s.ct.slots, c.state = .disabled ∨ c.state = .idle) → (∀ c ∈ s.ct.slots, c.offered = false) →
          (s.slot 6).state = .disabled → r.result .notice = 0 → t.mpc.state = s.mpc.state →
          t.re.status.held = (s.re.status.held && s.re.status.renewed))
        ∧ t.re.join = s.re.join ∧ t.re.census = s.re.census
        ∧ ((r.result .notice).testBit 1 = true → t.da.spent = 0 ∧ t.da.exhausted = false)
        ∧ ((r.result .notice).testBit 1 = false → t.da.spent = s.da.spent ∧ t.da.exhausted = s.da.exhausted)
        ∧ ((r.result .notice).testBit 0 = true → s.mpc.state = .cut →
          t.mpc.state ≠ .cut ∧ t.mpc.feed = true ∧ t.mpc.loud = 0)
        ∧ t.cu = (if s.cu.state = .running
              ∧ holdHas (BitVec.ofNat 7 (r.result .hold)) s.cu.level ≠ s.cu.reference
            then { s.cu with
              disturbed := true, reference := holdHas (BitVec.ofNat 7 (r.result .hold)) s.cu.level }
            else s.cu))
      ∧ (y = .rest → t.ev.grade = s.ev.grade
        ∧ t.ev.table.map (·.level) = levels.filter (holdHas (BitVec.ofNat 7 (r.result .hold)))
        ∧ t.ev.net = (if BitVec.ofNat 7 (r.result .hold) = 0 ∧ r.result .objection = 0 then .rest else .awake)
        ∧ t.ct = s.ct ∧ t.cu = s.cu ∧ noticeFrame s t ∧ t.re.join = s.re.join ∧ t.re.census = s.re.census
        ∧ t.re.rest = ⟨s.re.rest.held && s.re.rest.renewed && !(s.ev.net == .settling && t.ev.net == .awake), false⟩)
      ∧ (y = .census ∨ y = .join → t.ev = s.ev ∧ t.ct = s.ct ∧ t.mpc = s.mpc ∧ t.mu = s.mu ∧ t.da = s.da
        ∧ noticeFrame s t ∧ t.re.join = s.re.join ∧ t.re.rest = s.re.rest)
      ∧ (y = .join → t.cu = s.cu ∧ t.mc.disagreement
          = decide (BitVec.ofNat 16 (r.result .digestMax) ≠ BitVec.ofNat 16 (r.result .digestMin))
        ∧ t.re.census = s.re.census ∧ t.re.status = ⟨s.re.status.held || t.mc.disagreement != s.mc.disagreement,
          s.re.status.renewed⟩)
      ∧ (y = .census → r.winner = true → s.cu.state = .running → s.cu.closeOwed = false →
        (BitVec.ofNat 6 (r.result .candidate) ≠ 0 → t.re.census.held = true)
        ∧ (BitVec.ofNat 6 (r.result .candidate) = 0 → t.cu.state = .complete ∧ t.re.census = ⟨false, false⟩
          ∧ t.eventSet .censusDone = true))
      ∧ ∃ q, exec (.round n [false] false) s = .next { t with
          lif := { t.lif with state := .closing }, re := { t.re with record := some q } }

/-- ROUND, one bit of it: what troubles a round, and the void. The bit sample of a bit that has begun (R2, R10): an
asserted gap is a lost synchronisation (R13), an asserted separator a framing error and a second one a lost
synchronisation (R11, R13); a bit driven asserted and sampled released is a drive fault, after which the station drives
nothing and listens to the end of the void bit, and at the void bit itself the round is over for it (R14, R22, R36); in an
arbitrated field a station that drove released and sampled asserted has lost and releases the rest (R18, R19, R23), and in
a confirm field it has a mismatch (R21). At the end of the type field a
non-member stands aside from a Status round (R29), and a result other than 6, 4, 2 and 1 is an invalid type (R24). A Member
drives the void bit asserted exactly when one of the three marks is set (R22). A void bit sampled asserted at a Member
(R22, R35, R38): no result is applied and no want cleared, offered causes are plain Pending again or, their expiry held,
Idle with CauseExpired raised (R75), and the void counter goes up by one; the fourth in a row is a void run, which ends
membership (R47). That the outcome falls at the end of the void bit is log 6, and that the sample stands for the periods
of its bit is log 5. The model's readings: after a drive fault the record stays with its abandoned mark, as the bit
count that the listener needs, where R36 discards the record (log 7); and a station that stands aside keeps every renewed
mark (log 27). -/
def Obligations.RoundVoidAtTheMember : Prop :=
  (∀ (s u : State) (r : RoundRecord) (x : Bool) (n : Nat),
      s.pins.rstN = true → s.lif.state = .round → s.lif.period < 5 → s.lif.assertedRun < 153 →
      u = (if s.lif.period = 0 then bitBegin s else s) → u.re.record = some r → r.abandoned = false →
      ∃ t, exec (.round n [x] false) s = .next t
        ∧ (t.lif.state = .round → t.lif.bitPos = s.lif.bitPos + 1 ∧ t.lif.period = 0
          ∧ t.lif.assertedRun = (if x then s.lif.assertedRun + (8 - s.lif.period) else 0))
        ∧ (r.current = .gap ∧ x = true ∨ r.current = .sep ∧ x = true ∧ s.lif.framing = true →
          t.lif.state = .seeking ∧ t.lif.idleRun = 0 ∧ t.lif.drive = false ∧ t.re.record = none
          ∧ (s.mc.state ≠ .degraded → t.re.join.held = s.re.join.held) ∧ t.re.voids = (if s.mc.state = .member then 0 else s.re.voids)
          ∧ (s.mc.state = .member → t.mc.state = .degraded ∧ t.mc.lastFault = some .lostSync
            ∧ t.eventSet .lineTrouble = true))
        ∧ (r.current = .gap ∧ x = false ∨ r.current = .sep ∧ (x = false ∨ s.lif.framing = false) →
          t.lif.state = .round ∧ t.lif.framing = (s.lif.framing || x) ∧ t.mc = s.mc
          ∧ t.re = { s.re with
              record := some { r with seg := r.seg + 1, bit := 0, begun := false, samples := r.samples ++ [x] } })
        ∧ (∀ f, r.current = .field f ∨ r.current = .confirm f → u.lif.drive = true → x = false →
          r.role = .member ∨ (if r.current = .field .typ then r.bit < 2 ∨ natOfBits (r.samples ++ [x]) ≠ 4
            else r.rtype ≠ some .status) →
          t.lif.state = .round ∧ t.lif.listener = true ∧ t.lif.drive = false
          ∧ (∃ q, t.re.record = some q ∧ q.abandoned = true ∧ q.driveNow = false)
          ∧ t.re.join.renewed = false ∧ t.re.status.renewed = false ∧ t.re.census.renewed = false
          ∧ t.re.rest.renewed = false
          ∧ (s.mc.state = .member → t.mc.state = .degraded ∧ t.mc.lastFault = some .driveFault
            ∧ t.eventSet .lineTrouble = true))
        ∧ (r.current = .void → u.lif.drive = true → x = false →
          t.lif.state = .idle ∧ t.lif.idleRun = 0 ∧ t.lif.drive = false ∧ t.re.record = none
          ∧ t.re.join.renewed = false ∧ t.re.status.renewed = false ∧ t.re.census.renewed = false
          ∧ t.re.rest.renewed = false ∧ t.mc.counter = s.mc.counter
          ∧ (s.mc.state = .member → t.mc.state = .degraded ∧ t.mc.lastFault = some .driveFault
            ∧ t.eventSet .lineTrouble = true))
        ∧ (∀ f, r.current = .field f → u.lif.drive = false ∨ x = true → r.bit + 1 < f.width →
          t.lif.state = .round ∧ t.mc = s.mc ∧ t.re = { s.re with record := some { r with
            bit := r.bit + 1, samples := r.samples ++ [x],
            lost := r.lost || (f.arbitrated && r.drives && !u.lif.drive && x) } }
          ∧ (r.lost = true ∨ f.arbitrated = true ∧ r.drives = true ∧ u.lif.drive = false ∧ x = true →
            (bitBegin t).lif.drive = false))
        ∧ (∀ f, r.current = .confirm f → u.lif.drive = false ∨ x = true → r.bit + 1 < f.width →
          t.lif.state = .round ∧ t.mc = s.mc ∧ t.re = { s.re with record := some { r with
            bit := r.bit + 1, samples := r.samples ++ [x],
            mismatch := r.mismatch || (r.drives && !u.lif.drive && x) } })
        ∧ (r.current = .field .typ → r.bit = 2 → u.lif.drive = false ∨ x = true →
          (r.role = .nonMember → natOfBits (r.samples ++ [x]) = 4 → t.lif.state = .seeking ∧ t.lif.idleRun = 0
            ∧ t.lif.drive = false ∧ t.mc = s.mc ∧ t.re = { s.re with record := none, named := none })
          ∧ (r.role = .member ∨ natOfBits (r.samples ++ [x]) ≠ 4 → t.lif.state = .round ∧ t.mc = s.mc
            ∧ ∃ q, t.re.record = some q ∧ q.results = r.results ++ [(.typ, r.samples ++ [x])]
              ∧ q.rtype = (if natOfBits (r.samples ++ [x]) = 6 then some .join
                else if natOfBits (r.samples ++ [x]) = 4 then some .status
                else if natOfBits (r.samples ++ [x]) = 2 then some .census
                else if natOfBits (r.samples ++ [x]) = 1 then some .rest else none)
              ∧ q.invalid = q.rtype.isNone
              ∧ q.starter = (r.starter && r.drives && !r.lost && (u.lif.drive || !x)))))
  ∧ (∀ f : Field, f.arbitrated = true ↔ f = .typ ∨ f = .pressure ∨ f = .number ∨ f = .digestMax ∨ f = .digestMin
      ∨ f = .count ∨ f = .requester ∨ f = .candidate)
  ∧ (∀ (s : State) (r : RoundRecord), s.re.record = some r → r.current = .void → r.bit = 0 → r.abandoned = false →
      (r.role = .member ∨ r.invalid = true) →
      ((bitBegin s).lif.drive = true ↔ s.lif.framing = true ∨ r.mismatch = true ∨ r.invalid = true))
  ∧ (∀ (s : State) (r : RoundRecord) (n : Nat),
    s.pins.rstN = true → s.mc.state = .member → s.lif.state = .round → s.lif.period = 0 →
    s.lif.assertedRun < 153 → s.re.record = some r → r.role = .member → r.current = .void → r.bit = 0 →
    r.abandoned = false →
    ∃ t, exec (.round n [true] true) s = .next t
      ∧ t.lif.state = .idle ∧ t.lif.drive = false ∧ t.re.record = none ∧ t.mc.counter = s.mc.counter
      ∧ (s.re.voids < 3 → t.re.voids = s.re.voids + 1 ∧ t.mc = s.mc ∧ t.ev = s.ev ∧ t.cu = s.cu
        ∧ noticeFrame s t ∧ t.mpc = s.mpc ∧ t.mu = s.mu ∧ t.da = s.da
        ∧ t.re.status = { s.re.status with renewed := false } ∧ t.re.rest = { s.re.rest with renewed := false }
        ∧ t.re.census = { s.re.census with renewed := false } ∧ t.re.join = { s.re.join with renewed := false }
        ∧ t.ct.offers = [] ∧ t.ct.timers = s.ct.timers ∧ t.ct.sense = s.ct.sense
        ∧ (∀ i, t.slot i = (if (s.slot i).offered = true then
              (if (s.slot i).expiryHeld = true then { s.slot i with
                state := .idle, offered := false, merged := false, expiryHeld := false, countdown := 0, opened := none }
              else { s.slot i with offered := false })
            else s.slot i))
        ∧ t.eventSet .causeExpired
          = (s.eventSet .causeExpired || s.ct.slots.any fun c => c.offered && c.expiryHeld)
        ∧ ∀ c ∈ t.ct.slots, c.offered = false)
      ∧ (s.re.voids = 3 → t.re.voids = 0 ∧ t.mc.state = .degraded ∧ t.mc.lastFault = some .voidRun
        ∧ t.mc.rejoin = some 128 ∧ t.eventSet .lineTrouble = true
        ∧ t.re.status.held = false ∧ t.re.census.held = false ∧ t.re.rest.held = false))

/-- ROUND at the void bit of a Join round that this station has won, sampled released without trouble (R43, R44): with
the claim released and both digests its own it is admitted, with the counter at the count result plus one and the
table of the hold map; else it is refused, Isolated and Silent with the reason recorded. That the outcome is applied at
the end of the void bit, the round closed in the same step and the record gone with it, is the model's choice (log 6). -/
def Obligations.JoinRoundAdmitsOrRefuses : Prop :=
  ∀ (s : State) (r : RoundRecord) (n : Nat),
    s.pins.rstN = true → s.mc.state = .joining ∨ s.mc.state = .degraded → s.lif.state = .round →
    s.lif.period = 0 → s.lif.framing = false → s.re.record = some r → r.role = .nonMember →
    r.rtype = some .join → r.winner = true → r.current = .void → r.bit = 0 →
    r.mismatch = false → r.invalid = false → r.abandoned = false →
    ∃ t, exec (.round n [false] true) s = .next t
      ∧ t.lif.drive = false ∧ t.re.record = none ∧ t.re.join.held = false ∧ t.re.voids = 0
      ∧ (r.result .claim = 0 ∧ BitVec.ofNat 16 (r.result .digestMax) = s.mc.digest
          ∧ BitVec.ofNat 16 (r.result .digestMin) = s.mc.digest →
        t.mc.state = .member ∧ t.lif.state = .idle ∧ t.re.status.held = true
        ∧ t.mc.counter = BitVec.ofNat 16 (r.result .count) + 1 ∧ t.mc.lastFault = none ∧ t.mc.rejoin = none
        ∧ t.ev.table.map (·.level) = levels.filter (holdHas (BitVec.ofNat 7 (r.result .hold)))
        ∧ (∀ x ∈ t.ev.table, x.learned = true) ∧ t.mpc.frozen = false ∧ t.cu.holdOff = 128)
      ∧ (¬ (r.result .claim = 0 ∧ BitVec.ofNat 16 (r.result .digestMax) = s.mc.digest
          ∧ BitVec.ofNat 16 (r.result .digestMin) = s.mc.digest) →
        t.mc.state = .isolated ∧ t.lif.state = .silent ∧ t.mc.counter = s.mc.counter
        ∧ t.mc.lastFault = some (if r.result .claim = 0 then .profile else .duplicate)
        ∧ t.eventSet .isolated = true)

/-! ## Membership -/

/-- A raised Status want (R31, R55): a Member keeps it, renewed when it follows a Status round past the covering point;
in local mode it makes a local decision due; in Joining and Unconfigured it is not kept. -/
def Obligations.StatusWantByMembership : Prop :=
  ∀ s : State,
    (s.mc.state = .member → raiseStatus s = { s with re := { s.re with
      status := { held := true, renewed := s.re.status.renewed || s.pastCovering .status } } })
    ∧ (s.mc.state = .degraded ∨ s.mc.state = .isolated →
      raiseStatus s = { s with mc := { s.mc with decisionDue := true } })
    ∧ (s.mc.state = .joining ∨ s.mc.state = .unconfigured → raiseStatus s = s)

/-- REJOIN_TIMER_EXPIRY in Degraded with the timer running (R49): the timer stops and a Join want is set. -/
def Obligations.RejoinTimerRaisesTheJoinWant : Prop :=
  ∀ s : State, s.pins.rstN = true → s.mc.state = .degraded → s.mc.rejoin ≠ none →
    ∃ t, exec .rejoinTimerExpiry s = .next t ∧ t.mc = { s.mc with rejoin := none } ∧ t.re.join.held = true
      ∧ t.re = { s.re with join := t.re.join } ∧ changesOnly [.mc, .re] s t

/-- LOCAL_DECISION of the Status kind (R54, R55, R108, R192): the grade is the station's own, the alarm map its own
drive values, both notice requests are carried, the round counter and the line are as they were, and with no Rest
decision behind it the view holds the levels of the holding and the offered causes. A due Rest decision alone leaves
the levels of the holding causes (R56, R109). That a due Rest decision waits behind a Status decision is log 16, so that
no run reaches a Rest decision due alone; what the CT offers against is log 20. -/
def Obligations.LocalDecisionIsTheStationsOwn : Prop :=
  ∀ s : State, s.pins.rstN = true → s.isLocal = true →
    (s.mc.decisionDue = true → ∃ t, exec .localDecision s = .next t
      ∧ t.ev.grade = s.da.pressure ∧ t.ev.alarm = s.alarmDrive ∧ t.mc.counter = s.mc.counter
      ∧ t.mc.state = s.mc.state ∧ t.pl.refill = false ∧ t.pl.restore = false ∧ t.pl.store = s.pl.store
      ∧ (s.pl.refill = true → t.da.spent = 0)
      ∧ t.lif = s.lif ∧ t.cu = s.cu ∧ t.pins = s.pins
      ∧ (s.mc.restDue = false → t.ev.table.map (·.level)
          = levels.filter fun l => s.ct.slots.any fun c => (c.holding || c.offered || s.offerable c) && c.level == l))
    ∧ (s.mc.decisionDue = false → s.mc.restDue = true → ∃ t, exec .localDecision s = .next t
      ∧ t.ev.table.map (·.level) = (levels.filter fun l => s.ct.slots.any fun c => c.holding && c.level == l)
      ∧ t.ev.net = (if t.ev.table = [] ∧ s.mpc.objection = false then .rest else .awake)
      ∧ t.ct = s.ct ∧ t.mc.counter = s.mc.counter ∧ t.lif = s.lif ∧ t.cu = s.cu ∧ t.pins = s.pins)

/-- HEARTBEAT_EXPIRY (R105): the timer stops and a Status want is raised. SETTLE_EXPIRY (R102, R56): the timer stops, and
a Member raises a Rest want; in local mode a Rest decision is taken, with the network state Rest when the hold map is
empty and nothing is objected, else Awake; with a Status decision due it waits behind that one (R109; log 16). -/
def Obligations.NetworkTimersAskForRounds : Prop :=
  (∀ s : State, s.pins.rstN = true → s.ev.heartbeat ≠ none →
      ∃ t, exec .heartbeatExpiry s = .next t ∧ t.ev = { s.ev with heartbeat := none }
        ∧ (s.mc.state = .member → t.re.status.held = true) ∧ changesOnly [.ev, .re, .mc] s t ∧ wantFrame s t)
  ∧ (∀ s : State, s.pins.rstN = true → s.ev.settle ≠ none →
      (s.mc.state = .member → ∃ t, exec .settleExpiry s = .next t ∧ t.ev = { s.ev with settle := none }
        ∧ t.re.rest.held = true ∧ changesOnly [.ev, .re] s t)
      ∧ (s.mc.state = .joining ∨ s.mc.state = .unconfigured →
        exec .settleExpiry s = .next { s with ev := { s.ev with settle := none } })
      ∧ (s.isLocal = true → s.mc.decisionDue = true →
        exec .settleExpiry s = .next { s with ev := { s.ev with settle := none }, mc := { s.mc with restDue := true } })
      ∧ (s.isLocal = true → s.mc.decisionDue = false → ∃ t, exec .settleExpiry s = .next t
        ∧ t.ev.settle = none ∧ t.ev.grade = s.ev.grade ∧ t.ct = s.ct ∧ t.lif = s.lif ∧ t.cu = s.cu
        ∧ t.ev.table.map (·.level) = (levels.filter fun l => s.ct.slots.any fun c => c.holding && c.level == l)
        ∧ t.ev.net = (if t.ev.table = [] ∧ s.mpc.objection = false then .rest else .awake)))

/-! ## Causes -/

/-- A level is acceptable when it is above the floor, the greater of E and F_G, or equals E with E above F_G (R72). E is
the highest level of an Exclusive entry, 0 when there is none. -/
def Obligations.AcceptableLevels : Prop :=
  ∀ (s : State) (l : Level),
    (s.acceptable l = true ↔ (s.topLevel < l ∧ s.settings.floorOf s.ev.grade < l)
      ∨ (l = s.topLevel ∧ s.settings.floorOf s.ev.grade < s.topLevel))
    ∧ (∀ x ∈ s.ev.table, x.exclusive = true → x.level ≤ s.topLevel)
    ∧ (s.topLevel = 0 ∨ ∃ x ∈ s.ev.table, x.exclusive = true ∧ x.level = s.topLevel)

/-- SENSE_FILTERED_EDGE (R61, R62, R68, R70): the filtered level is the new one. A matching edge takes an Idle cause of
the same number to Pending with its patience loaded and a Status want raised, merges with a Pending one and starts the
linger of a Lingering Momentary one again; a Level-mode holding cause follows its source; in every other case the slot
stands. That the input's pin takes the new level is the model's choice (log 26). -/
def Obligations.SenseEdgeTriggersItsSlot : Prop :=
  ∀ (s : State) (k : Fin 4) (b : Bool), s.pins.rstN = true → s.ct.slots.length = 16 → s.ct.sense.length = 4 →
    (s.ct.sense.getD k.val ⟨false, 0⟩).filtered ≠ b →
    ∃ t, exec (.senseFilteredEdge k b) s = .next t
      ∧ (t.ct.sense.getD k.val ⟨false, 0⟩) = ⟨b, 0⟩
      ∧ (∀ j, j ≠ k.val → t.slot j = s.slot j ∧ t.ct.sense[j]? = s.ct.sense[j]?)
      ∧ t.ct.timers = s.ct.timers ∧ t.ct.offers = s.ct.offers
      ∧ t.lif = s.lif ∧ t.ev = s.ev ∧ t.cu = s.cu ∧ t.pins = { s.pins with sns := s.pins.sns.set k.val b }
      ∧ wantFrame s t ∧ noticeFrame s t
      ∧ ((s.slot k.val).state = .idle → s.settings.edgeMatches k.val b = true →
        t.slot k.val = { s.slot k.val with
          state := .pending, offered := false, merged := false, expiryHeld := false, opened := none
          countdown := 16 * (s.slot k.val).patience.toNat }
        ∧ (s.mc.state = .member → t.re.status.held = true) ∧ changesOnly [.ct, .re, .mc, .pins] s t)
      ∧ ((s.slot k.val).state = .pending → s.settings.edgeMatches k.val b = true →
        t.slot k.val = { s.slot k.val with merged := true } ∧ changesOnly [.ct, .pins] s t)
      ∧ ((s.slot k.val).state = .disabled → t.slot k.val = s.slot k.val ∧ changesOnly [.ct, .pins] s t)
      ∧ ((s.slot k.val).state = .held → (s.slot k.val).mode = .level → b ≠ s.settings.activeHigh k.val →
        t.slot k.val = { s.slot k.val with state := .lingering, countdown := 4 * (s.slot k.val).linger.toNat })
      ∧ ((s.slot k.val).state = .lingering → (s.slot k.val).mode = .level → b = s.settings.activeHigh k.val →
        t.slot k.val = { s.slot k.val with state := .held, countdown := 0 })
      ∧ ((s.slot k.val).state = .lingering → (s.slot k.val).mode = .momentary → s.settings.edgeMatches k.val b = true →
        t.slot k.val = { s.slot k.val with countdown := 4 * (s.slot k.val).linger.toNat } ∧ changesOnly [.ct, .pins] s t)
      ∧ (((s.slot k.val).state = .idle ∨ (s.slot k.val).state = .pending) ∧ s.settings.edgeMatches k.val b = false
          ∨ (s.slot k.val).state = .held ∧ ((s.slot k.val).mode = .momentary ∨ b = s.settings.activeHigh k.val)
          ∨ (s.slot k.val).state = .lingering
            ∧ ((s.slot k.val).mode = .momentary ∧ s.settings.edgeMatches k.val b = false
              ∨ (s.slot k.val).mode = .level ∧ b ≠ s.settings.activeHigh k.val) →
        t.slot k.val = s.slot k.val ∧ changesOnly [.ct, .pins] s t)

/-- WAKE_TIMER_EXPIRY of a running timer (R63, R68): a one-shot timer stops at 0 and a periodic one is reloaded, slot 4
or 5 is triggered, and every other timer and slot is as it was. -/
def Obligations.WakeTimerTriggersItsSlot : Prop :=
  ∀ (s : State) (n : Fin 2), s.pins.rstN = true → s.ct.slots.length = 16 → s.ct.timers.length = 2 →
    (s.timer n.val).running = true →
    ∃ t, exec (.wakeTimerExpiry n) s = .next t
      ∧ t.timer n.val = (if (s.timer n.val).periodic
          then { s.timer n.val with count := (s.timer n.val).reload }
          else { s.timer n.val with count := 0, running := false })
      ∧ (∀ m, m ≠ n.val → t.timer m = s.timer m) ∧ (∀ j, j ≠ 4 + n.val → t.slot j = s.slot j)
      ∧ t.ct.sense = s.ct.sense ∧ changesOnly [.ct, .re, .mc] s t ∧ wantFrame s t
      ∧ ((s.slot (4 + n.val)).state = .idle → (t.slot (4 + n.val)).state = .pending
        ∧ (t.slot (4 + n.val)).countdown = 16 * (s.slot (4 + n.val)).patience.toNat
        ∧ (s.mc.state = .member → t.re.status.held = true))
      ∧ ((s.slot (4 + n.val)).state = .lingering → (s.slot (4 + n.val)).mode = .momentary →
        t.slot (4 + n.val) = { s.slot (4 + n.val) with countdown := 4 * (s.slot (4 + n.val)).linger.toNat })
      ∧ ((s.slot (4 + n.val)).state = .pending →
        t.slot (4 + n.val) = { s.slot (4 + n.val) with merged := true })
      ∧ ((s.slot (4 + n.val)).state = .disabled ∨ (s.slot (4 + n.val)).state = .held →
        t.slot (4 + n.val) = s.slot (4 + n.val))

/-- PATIENCE_EXPIRY of a Pending cause with a patience (R69): not offered it goes Idle and CauseExpired is raised;
offered it stays Pending and offered with the expiry held. LINGER_EXPIRY of a Lingering cause (R71, R78, R79): Idle
with the opened round absent, and a Status want raised; only a cause with self rails has the need evaluated. -/
def Obligations.CountdownsEndTheirCause : Prop :=
  (∀ (s : State) (i : Fin 16), s.pins.rstN = true → s.ct.slots.length = 16 →
      (s.slot i.val).state = .pending → (s.slot i.val).patience ≠ 0 →
      ∃ t, exec (.patienceExpiry i) s = .next t
        ∧ (∀ j, j ≠ i.val → t.slot j = s.slot j) ∧ t.ct.timers = s.ct.timers ∧ changesOnly [.ct, .pl] s t
        ∧ noticeFrame s t
        ∧ ((s.slot i.val).offered = false → t.slot i.val = { s.slot i.val with
            state := .idle, offered := false, merged := false, expiryHeld := false, countdown := 0, opened := none }
          ∧ t.eventSet .causeExpired = true)
        ∧ ((s.slot i.val).offered = true →
          t.slot i.val = { s.slot i.val with countdown := 0, expiryHeld := true } ∧ t.pl = s.pl))
  ∧ (∀ (s : State) (i : Fin 16), s.pins.rstN = true → s.ct.slots.length = 16 → (s.slot i.val).state = .lingering →
      ∃ t, exec (.lingerExpiry i) s = .next t
        ∧ t.slot i.val = { s.slot i.val with
            state := .idle, offered := false, merged := false, expiryHeld := false, countdown := 0, opened := none }
        ∧ (∀ j, j ≠ i.val → t.slot j = s.slot j) ∧ t.ct.timers = s.ct.timers
        ∧ t.lif = s.lif ∧ t.ev = s.ev ∧ t.cu = s.cu ∧ t.pins = s.pins ∧ wantFrame s t ∧ noticeFrame s t
        ∧ (s.mc.state = .member → t.re.status.held = true)
        ∧ (s.isLocal = true → t.mc.decisionDue = true)
        ∧ ((s.slot i.val).rails = 0 → changesOnly [.ct, .re, .mc] s t))

/-! ## Module power -/

/-- The end of Powering, by HELLO_TIMER_EXPIRY with ModuleSilent raised or by HELLO answered Done (R117, R118): the hello
timer is stopped, RAILA stays on, and the need as it stands decides between On, with RAILB on exactly when it contains
rail B, and Parking (R119). -/
def Obligations.PoweringEndsInOn : Prop :=
  ∀ s : State, s.mpc.state = .powering → s.mpc.frozen = false → s.fixed = true →
    (s.pins.rstN = true → s.mpc.hello ≠ none → ∃ t, exec .helloTimerExpiry s = .next t
      ∧ t.eventSet .moduleSilent = true ∧ t.mpc.hello = none ∧ t.mpc.raila = true ∧ t.mpc.feed = true
      ∧ t.mpc.state = (if s.needNow = .empty then .parking else .on)
      ∧ t.mpc.railb = decide (s.needNow = .ab)
      ∧ t.eventSet .parkRequest = (s.eventSet .parkRequest || decide (s.needNow = .empty))
      ∧ t.mpc.loud = s.mpc.loud ∧ changesOnly [.mpc, .re, .mc, .pl] s t ∧ wantFrame s t ∧ noticeFrame s t)
    ∧ (s.linkReady → ∃ t, exec .hello s = .next t
      ∧ t.pl.txn = some (.taken [0xA1]) ∧ t.mpc.hello = none ∧ t.mpc.raila = true ∧ t.mpc.feed = true
      ∧ t.mpc.state = (if s.needNow = .empty then .parking else .on)
      ∧ t.mpc.railb = decide (s.needNow = .ab)
      ∧ t.eventSet .moduleSilent = s.eventSet .moduleSilent
      ∧ t.mpc.loud = s.mpc.loud ∧ changesOnly [.mpc, .re, .mc, .pl] s t ∧ wantFrame s t ∧ noticeFrame s t)

/-- HELLO outside an unfrozen Powering (R117, R131) is answered Done in On and Wrong-state in every other state, and PARK
outside an unfrozen Parking (R120, R131) Wrong-state, with no change. -/
def Obligations.HelloAndParkOutOfPlace : Prop :=
  (∀ s : State, s.linkReady →
      (s.mpc.state = .on → exec .hello s = .next (s.withAnswer 0xA1 []))
      ∧ (s.mpc.state ≠ .on → s.mpc.state ≠ .powering ∨ s.mpc.frozen = true →
        exec .hello s = .next (s.withAnswer 0xC3 [])))
  ∧ (∀ s : State, s.linkReady → s.mpc.state ≠ .parking ∨ s.mpc.frozen = true →
      exec .park s = .next (s.withAnswer 0xC3 []))

/-- The end of Parking, by GRACE_EXPIRY with ParkForced raised or by PARK (R120, R121, R112, R155, R158, R181): Off, RAILA
and RAILB off with FEED on, the quiet delay started, the transaction over with every clearing mark removed, the
drain sample aborted, the window cleared and the quiet tick count at 0. -/
def Obligations.ParkingEndsInOff : Prop :=
  ∀ s : State, s.mpc.state = .parking → s.mpc.frozen = false →
    ∀ c : Instr, c = .graceExpiry ∧ s.pins.rstN = true ∧ s.mpc.grace ≠ none ∨ c = .park ∧ s.linkReady →
    ∃ t, exec c s = .next t
      ∧ t.mpc.state = .off ∧ t.mpc.raila = false ∧ t.mpc.railb = false ∧ t.mpc.feed = true ∧ t.mpc.grace = none
      ∧ t.mpc.quietDelay = some (s.settings.quietDelayCode * 3277) ∧ t.mpc.loud = s.mpc.loud
      ∧ t.pl.txn = none ∧ t.pl.clearing = 0 ∧ t.pl.store = s.pl.store
      ∧ t.mu.reqDrain = false ∧ t.mu.inFlight ≠ some .drain ∧ t.mu.linkHold = 0
      ∧ t.da.window = List.replicate 16 0 ∧ t.da.filtered = 0 ∧ t.da.saturated = false ∧ t.da.phase = none
      ∧ t.da.quietTicks = some 0 ∧ t.da.rateGrade = 0 ∧ t.da.spent = s.da.spent
      ∧ t.eventSet .parkForced = (s.eventSet .parkForced || c == .graceExpiry)
      ∧ (s.mc.state = .member → t.re.status.held = true)
      ∧ changesOnly [.mpc, .re, .mc, .pl, .mu, .da] s t ∧ wantFrame s t ∧ noticeFrame s t

/-- CLEAR_CUT (R128): the loud count is 0 and the answer Done; a frozen Cut module is Off with FEED on, and one that is
not frozen has its need evaluated at once; in Unconfigured it is answered Wrong-state. -/
def Obligations.ClearCutClearsTheCount : Prop :=
  ∀ s : State, s.linkReady →
    (s.fixed = false → exec .clearCut s = .next (s.withAnswer 0xC3 []))
    ∧ (s.fixed = true → s.mpc.state ≠ .cut → ∃ t, exec .clearCut s = .next t
      ∧ t.pl.txn = some (.taken [0xA1]) ∧ t.mpc = { s.mpc with loud := 0 }
      ∧ changesOnly [.mpc, .re, .mc, .pl] s t ∧ wantFrame s t ∧ noticeFrame s t)
    ∧ (s.fixed = true → s.mpc.state = .cut → ∃ t, exec .clearCut s = .next t
      ∧ t.mpc.loud = 0 ∧ t.mpc.feed = true
      ∧ t.mpc.state = (if s.mpc.frozen = true ∨ s.needNow = .empty then .off else .powering)
      ∧ (s.mc.state = .member → t.re.status.held = true) ∧ wantFrame s t ∧ noticeFrame s t
      ∧ changesOnly [.mpc, .re, .mc, .pl, .mu, .da] s t)

/-! ## Measurement -/

/-- The timers that ask for a check (R129, R139, R141, R142): the timer is reloaded, the request is pending or its
conversion has begun, and a stopped or failed clock has started an attempt. SAMPLE_BOUNDARY (R143, R154, R155): the
phase is 0 and a drain sample is requested; where one is pending already the request is merged and a missed sample
enters the window. -/
def Obligations.SchedulesRequestTheirConversions : Prop :=
  (∀ s : State, s.pins.rstN = true →
      (s.mu.batteryTimer ≠ none → ∃ t, exec .batteryTimerExpiry s = .next t
        ∧ t.mu.batteryTimer = some (if s.ev.net = .rest then 256 * s.settings.restBatteryCode
            else 64 * s.settings.awakeBatteryCode)
        ∧ (t.mu.reqBattery = true ∨ t.mu.inFlight = some .battery)
        ∧ (s.mu.reqBattery = false → s.mu.clock = .stopped ∨ s.mu.clock = .failed →
          t.mu.clock = .settling ∧ t.mu.startTime = some s.time)
        ∧ changesOnly [.mu] s t)
      ∧ (s.mu.quietTimer ≠ none → ∃ t, exec .quietIntervalExpiry s = .next t
        ∧ t.mu.quietTimer = some ((if s.ev.grade.val < 4 then 64 else 128) * s.settings.quietIntervalCode)
        ∧ (t.mu.reqQuiet = true ∨ t.mu.inFlight = some .quiet)
        ∧ (s.mu.reqQuiet = false → s.mu.clock = .stopped ∨ s.mu.clock = .failed →
          t.mu.clock = .settling ∧ t.mu.startTime = some s.time) ∧ changesOnly [.mu] s t)
      ∧ (s.mpc.quietDelay ≠ none → ∃ t, exec .quietDelayExpiry s = .next t
        ∧ t.mu.quietTimer = some ((if s.ev.grade.val < 4 then 64 else 128) * s.settings.quietIntervalCode)
        ∧ (t.mu.reqQuiet = true ∨ t.mu.inFlight = some .quiet)
        ∧ (s.mu.reqQuiet = false → s.mu.clock = .stopped ∨ s.mu.clock = .failed →
          t.mu.clock = .settling ∧ t.mu.startTime = some s.time) ∧ t.mpc = { s.mpc with quietDelay := none }
        ∧ changesOnly [.mu, .mpc] s t))
  ∧ (∀ s : State, s.pins.rstN = true → s.fixed = true → s.da.phase ≠ none →
      (s.mu.reqDrain = false → ∃ t, exec .sampleBoundary s = .next t ∧ t.da = { s.da with phase := some 0 }
        ∧ (t.mu.reqDrain = true ∨ t.mu.inFlight = some .drain)
        ∧ (s.mu.clock = .stopped ∨ s.mu.clock = .failed → t.mu.clock = .settling ∧ t.mu.startTime = some s.time)
        ∧ changesOnly [.mu, .da] s t)
      ∧ (s.mu.reqDrain = true → ∃ t, exec .sampleBoundary s = .next t ∧ t.da.phase = some 0
        ∧ t.da.window = s.da.window.getD 0 0 :: s.da.window.take 15 ∧ t.mu = s.mu
        ∧ changesOnly [.da, .re, .mc, .pl] s t ∧ wantFrame s t ∧ noticeFrame s t))

/-- CLOCK_CONFIRMED in Settling once the settle interval of the clock settle code has passed (R134, R136, R140): Running,
ClockFault released with a Status want when it was asserted, and the pending request of highest priority has its
conversion started. Before then it changes nothing, with the intervals of 0.5, 1, 2 and 4 ms taken as 17, 33, 66 and 132
slow-clock periods (log 15). -/
def Obligations.ClockConfirmedRuns : Prop :=
  ∀ (s : State) (d : Nat), s.pins.rstN = true → s.mu.clock = .settling →
    d = (if s.settings.clockSettleCode = 0 then 17 else if s.settings.clockSettleCode = 1 then 33
      else if s.settings.clockSettleCode = 2 then 66 else 132) →
    (∀ n, s.mu.startTime = some n → s.time < n + d → exec .clockConfirmed s = .next s)
    ∧ (s.mu.inFlight = none → (∀ n, s.mu.startTime = some n → n + d ≤ s.time) →
      ∃ t, exec .clockConfirmed s = .next t ∧ t.mu.clock = .running ∧ t.mu.clockFault = false
      ∧ t.mu.startTime = none
      ∧ t.mu.inFlight = (if s.mu.reqBattery then some .battery else if s.mu.reqQuiet then some .quiet
          else if s.mu.reqDrain then some .drain else none)
      ∧ t.mu.reqBattery = false ∧ (t.mu.reqQuiet = (s.mu.reqQuiet && s.mu.reqBattery))
      ∧ t.mu.reqDrain = (s.mu.reqDrain && (s.mu.reqBattery || s.mu.reqQuiet))
      ∧ (s.mu.clockFault = true → s.mc.state = .member → t.re.status.held = true)
      ∧ (s.mu.clockFault = false → changesOnly [.mu] s t) ∧ changesOnly [.mu, .re, .mc] s t ∧ wantFrame s t)

/-- The fast clock fails, by CLOCK_SETTLE_TIMEOUT in Settling or CLOCK_OUT_OF_TOLERANCE in Running (R135, R149, R183):
Failed with every request and the conversion aborted, ClockFault asserted and raised, a lost drain sample entered as
a missed one, and a transaction whose command is not yet taken refused Busy-clock, also one in which no command byte is
complete (log 10). -/
def Obligations.ClockFailureAbortsEverything : Prop :=
  ∀ (s : State) (c : Instr), s.pins.rstN = true →
    c = .clockSettleTimeout ∧ s.mu.clock = .settling ∨ c = .clockOutOfTolerance ∧ s.mu.clock = .running →
    ∃ t, exec c s = .next t
      ∧ t.mu.clock = .failed ∧ t.mu.anyRequest = false ∧ t.mu.inFlight = none ∧ t.mu.clockFault = true
      ∧ t.mu.linkHold = s.mu.linkHold ∧ t.mu.batteryLow = s.mu.batteryLow
      ∧ t.eventSet .clockFault = true
      ∧ (s.mu.clockFault = false → s.mc.state = .member → t.re.status.held = true)
      ∧ t.pl.txn = (if s.pl.txn = some .opened ∨ s.pl.txn = some .arguments then some (.refused 0xB2) else s.pl.txn)
      ∧ (s.mu.reqDrain = true ∨ s.mu.inFlight = some .drain → s.fixed = true →
        t.da.window = s.da.window.getD 0 0 :: s.da.window.take 15)
      ∧ (s.mu.reqDrain = false → s.mu.inFlight ≠ some .drain → t.da = s.da)
      ∧ changesOnly [.mu, .re, .mc, .pl, .da] s t ∧ wantFrame s t ∧ noticeFrame s t

/-- LINK_HOLD_EXPIRY with the hold above 0 (R133, R137): the hold is 0, and a clock that is Settling or Running without
another demand stops. The model's choices: a Failed clock stays Failed when the hold was its last demand (log 11), and
with the hold at 0 the command changes nothing (log 2). -/
def Obligations.LinkHoldRunsOut : Prop :=
  ∀ s : State, s.pins.rstN = true →
    (s.mu.linkHold = 0 → exec .linkHoldExpiry s = .next s)
    ∧ (0 < s.mu.linkHold → ∃ t, exec .linkHoldExpiry s = .next t ∧ t.mu.linkHold = 0
      ∧ t.mu.clock = (if (s.mu.clock = .settling ∨ s.mu.clock = .running)
            ∧ ¬ (s.mu.anyRequest = true ∨ s.mu.inFlight ≠ none ∨ s.pins.lcs = true ∧ s.mpc.raila = true)
          then .stopped else s.mu.clock)
      ∧ changesOnly [.mu] s t)

/-- CONVERSION_END of a drain sample (R138, R145, R155 to R157, R159, R164): the module current v in picoamperes (the unit
is the model's, log 34) becomes a code at 0.5 mA per LSB, 0 at or below zero and 4,095 above full scale, and between two
steps either of them (free, log 34); the code enters the window at position 0, spent grows by the code times the charge
factor up to 2^48 - 1, f is the shifted sum held at 65,535, the grades follow, and GradeChange is raised when p changes. -/
def Obligations.DrainSampleIsEntered : Prop :=
  ∀ (s : State) (v : Int), s.pins.rstN = true → s.fixed = true → s.mu.inFlight = some .drain →
    ∃ x : BitVec 12, convertsTo 500000000 v x ∧ ∃ t, exec (.conversionEnd v) s = .next t
      ∧ t.da.window = x :: s.da.window.take 15
      ∧ t.da.spent = min (s.da.spent + x.toNat * s.settings.chargeFactor) 281474976710655
      ∧ t.da.filtered = min (weightedSum s.settings (x :: s.da.window.take 15) / 2 ^ s.settings.shift) 65535
      ∧ t.da.saturated = decide (65535 < weightedSum s.settings (x :: s.da.window.take 15) / 2 ^ s.settings.shift)
      ∧ t.da.balanceGrade = t.balanceGradeNow ∧ t.da.rateGrade = t.rateGradeNow
      ∧ t.da.pressure = max (max t.balanceGradeNow t.rateGradeNow) (if s.mu.batteryLow then 7 else 0)
      ∧ t.da.exhausted = (s.da.exhausted || decide (s.settings.allowance ≤ t.da.spent))
      ∧ t.eventSet .gradeChange = (s.eventSet .gradeChange || decide (t.da.pressure ≠ s.da.pressure))
      ∧ t.eventSet .accountExhausted
          = (s.eventSet .accountExhausted || (!s.da.exhausted && decide (s.settings.allowance ≤ t.da.spent)))
      ∧ (t.da.pressure ≠ s.da.pressure → s.mc.state = .member → t.re.status.held = true)
      ∧ (s.mu.clock = .running → t.mu.inFlight = (if s.mu.reqBattery then some .battery
          else if s.mu.reqQuiet then some .quiet else if s.mu.reqDrain then some .drain else none))
      ∧ t.da.phase = s.da.phase ∧ t.da.quietTicks = s.da.quietTicks
      ∧ changesOnly [.da, .mu, .re, .mc, .pl] s t ∧ wantFrame s t ∧ noticeFrame s t

/-- CONVERSION_END of a battery check (R138, R144, R147, R164): VBAT in microvolts (the unit is the model's, log 34) becomes
a code at 5 mV per LSB, 0 at or below zero and 4,095 above full scale, and between two steps either of them (free,
log 34); a code below the limit stores the deficit and sets BatteryLow, raised as an event when it was clear, with p at 7;
any other clears BatteryLow and stores nothing. -/
def Obligations.BatteryCheckSetsBatteryLow : Prop :=
  ∀ (s : State) (v : Int), s.pins.rstN = true → s.mu.inFlight = some .battery →
    ∃ x : BitVec 12, convertsTo 5000 v x ∧ ∃ t, exec (.conversionEnd v) s = .next t
      ∧ t.mu.batteryLow = decide (x.toNat < s.settings.batteryLimit)
      ∧ t.mu.deficit = (if x.toNat < s.settings.batteryLimit then some (s.settings.batteryLimit - x.toNat)
          else s.mu.deficit)
      ∧ t.eventSet .batteryLow
          = (s.eventSet .batteryLow || (!s.mu.batteryLow && decide (x.toNat < s.settings.batteryLimit)))
      ∧ (s.mu.batteryLow = false → x.toNat < s.settings.batteryLimit → t.da.pressure = 7)
      ∧ (s.mu.batteryLow = decide (x.toNat < s.settings.batteryLimit) → t.da = s.da)
      ∧ t.mu.quietRecord = s.mu.quietRecord ∧ t.da.spent = s.da.spent
      ∧ changesOnly [.da, .mu, .re, .mc, .pl] s t ∧ wantFrame s t ∧ noticeFrame s t

/-- CONVERSION_END of a quiet check while the quiet ticks count (R138, R144, R146, R125, R158): the module current v in
picoamperes (the unit is the model's, log 34) becomes a code at 1.953125 uA per LSB, 0 at or below zero and 4,095 above
full scale, and between two steps either of them (free, log 34). A code at or above the limit stores the excess, adds 1 to
the loud count up to 7 and charges the ticks at that code; any other sets the loud count to 0 and charges them at the
quiet floor code; then the count of ticks is 0. With the cut enabled, the outcome that takes the loud count of an Off module from below the loud limit to it enters Cut (R126; log 29), and any
other leaves the module state as it was. -/
def Obligations.QuietCheckChargesItsTicks : Prop :=
  ∀ (s : State) (v : Int) (n : Nat), s.pins.rstN = true → s.mu.inFlight = some .quiet →
    s.da.quietTicks = some n →
    ∃ x : BitVec 12, convertsTo 1953125 v x ∧ ∃ t, exec (.conversionEnd v) s = .next t
      ∧ t.mu.quietRecord = (if s.settings.quietLimit ≤ x.toNat then some (x.toNat - s.settings.quietLimit)
          else s.mu.quietRecord)
      ∧ t.mpc.loud = (if s.settings.quietLimit ≤ x.toNat then min (s.mpc.loud + 1) 7 else 0)
      ∧ t.da.spent = min (s.da.spent
          + (if s.settings.quietLimit ≤ x.toNat then x.toNat else s.settings.quietFloor) * n) 281474976710655
      ∧ t.da.quietTicks = some 0 ∧ t.da.window = s.da.window ∧ t.da.phase = s.da.phase
      ∧ t.mpc.state = (if s.settings.quietLimit ≤ x.toNat ∧ s.settings.cutEnabled = true ∧ s.mpc.state = .off
            ∧ s.mpc.loud < s.settings.loudLimit ∧ s.settings.loudLimit ≤ min (s.mpc.loud + 1) 7
          then .cut else s.mpc.state)
      ∧ t.mu.deficit = s.mu.deficit ∧ t.mu.batteryLow = s.mu.batteryLow
      ∧ changesOnly [.da, .mu, .mpc, .re, .mc, .pl] s t ∧ wantFrame s t ∧ noticeFrame s t

/-! ## The drain account -/

/-- The balance grade is the largest g from 1 to 7 with the balance at or below allowance × t_g / 256, compared as
balance × 256 against allowance × t_g, and 0 when none satisfies it; with falling thresholds the condition holds for
every grade up to it, and a full account has balance grade 0 (R162). The rate grade is the largest g from 1 to 7 with
f at or above r_g, 0 when none satisfies it and while RAILA is off; with rising thresholds the condition holds for
every grade up to it, and f = 65,535 meets every threshold (R163). -/
def Obligations.GradesAreTheLargestThatHold : Prop :=
  (∀ s : State,
      (s.balanceGradeNow ≠ 0 → s.balance * 256 ≤ s.settings.allowance * s.settings.balanceThreshold s.balanceGradeNow)
      ∧ (∀ g : Grade, s.balanceGradeNow < g →
        ¬ s.balance * 256 ≤ s.settings.allowance * s.settings.balanceThreshold g)
      ∧ ((∀ g h : Grade, 1 ≤ g → g ≤ h → s.settings.balanceThreshold h ≤ s.settings.balanceThreshold g) →
        ∀ g : Grade, 1 ≤ g → g ≤ s.balanceGradeNow →
          s.balance * 256 ≤ s.settings.allowance * s.settings.balanceThreshold g)
      ∧ (0 < s.settings.allowance → s.balance = s.settings.allowance → s.balanceGradeNow = 0)
      ∧ (∀ g : Grade, 0 < s.settings.allowance → s.settings.balanceThreshold g = 0 →
        (s.balance * 256 ≤ s.settings.allowance * s.settings.balanceThreshold g ↔ s.balance = 0)))
  ∧ (∀ s : State,
      (s.mpc.raila = false → s.rateGradeNow = 0)
      ∧ (s.rateGradeNow ≠ 0 → s.settings.rateThreshold s.rateGradeNow ≤ s.da.filtered)
      ∧ (s.mpc.raila = true → ∀ g : Grade, s.rateGradeNow < g → ¬ s.settings.rateThreshold g ≤ s.da.filtered)
      ∧ ((∀ g h : Grade, 1 ≤ g → g ≤ h → s.settings.rateThreshold g ≤ s.settings.rateThreshold h) →
        ∀ g : Grade, 1 ≤ g → g ≤ s.rateGradeNow → s.settings.rateThreshold g ≤ s.da.filtered)
      ∧ (s.da.filtered = 65535 → ∀ g : Grade, s.settings.rateThreshold g ≤ s.da.filtered))

/-! ## The census -/

/-- EXCLUSION_AGE_OUT and HOLD_OFF_END (R170, R172, R176): the record is absent, or the hold-off 0; a Waiting census whose
two conditions then hold is Running with a Census want, its reference taken from the table; a Running census whose own
record ages out is Disturbed. With the hold-off at 0 HOLD_OFF_END changes nothing (the model's choice, log 2). -/
def Obligations.CensusTimersLetAWaitingCensusRun : Prop :=
  ∀ s : State, s.pins.rstN = true →
    (s.cu.exclusion ≠ none → ∃ t, exec .exclusionAgeOut s = .next t ∧ t.cu.exclusion = none
      ∧ t.cu.holdOff = s.cu.holdOff ∧ t.cu.list = s.cu.list
      ∧ (∀ e, s.cu.exclusion = some e → t.cu.disturbed = (s.cu.disturbed
          || decide (s.cu.state = .running ∧ e.requester = s.mc.number ∧ e.level = s.cu.level)))
      ∧ t.cu.state = (if s.cu.state = .waiting ∧ s.cu.holdOff = 0 then .running else s.cu.state)
      ∧ (s.cu.state = .waiting → s.cu.holdOff = 0 → t.cu.reference = onTable s.ev.table s.cu.level
        ∧ (s.mc.state = .member → t.re.census.held = true))
      ∧ changesOnly [.cu, .re] s t)
    ∧ (0 < s.cu.holdOff → ∃ t, exec .holdOffEnd s = .next t ∧ t.cu.holdOff = 0
      ∧ t.cu.exclusion = s.cu.exclusion ∧ t.cu.list = s.cu.list ∧ t.cu.disturbed = s.cu.disturbed
      ∧ t.cu.state = (if s.cu.state = .waiting ∧ s.otherCensus = false then .running else s.cu.state)
      ∧ (s.cu.state = .waiting → s.otherCensus = false → t.cu.reference = onTable s.ev.table s.cu.level
        ∧ (s.mc.state = .member → t.re.census.held = true))
      ∧ changesOnly [.cu, .re] s t)
    ∧ (s.cu.holdOff = 0 → exec .holdOffEnd s = .next s)

/-- START_CENSUS (R171): Out-of-range outside levels 1 to 7, then Wrong-state outside Member and while a census runs,
waits or owes its close, each with no effect; else Done, with the list emptied and the level taken, Waiting with no
Census want behind another census or the hold-off (R172) and Running with a Census want otherwise. ABANDON_CENSUS (R179): a Running census is
Abandoned with its close owed, a Waiting one is Abandoned, and any other is answered Wrong-state; the list is kept. -/
def Obligations.CensusCommandsAnswer : Prop :=
  (∀ (s : State) (l : Byte), s.linkReady →
      (l = 0 ∨ 7 < l.toNat → exec (.startCensus l) s = .next (s.withAnswer 0xD4 []))
      ∧ (l ≠ 0 → l.toNat ≤ 7 → s.mc.state ≠ .member ∨ s.cu.state = .running ∨ s.cu.state = .waiting
          ∨ s.cu.closeOwed = true → exec (.startCensus l) s = .next (s.withAnswer 0xC3 []))
      ∧ (l ≠ 0 → l.toNat ≤ 7 → s.mc.state = .member → s.cu.state ≠ .running → s.cu.state ≠ .waiting →
          s.cu.closeOwed = false → ∃ t, exec (.startCensus l) s = .next t
        ∧ t.pl = { s.pl with txn := some (.taken [0xA1]) }
        ∧ t.cu.list = [] ∧ t.cu.disturbed = false ∧ t.cu.truncated = false ∧ t.cu.level.val = l.toNat
        ∧ t.cu.exclusion = s.cu.exclusion ∧ t.cu.holdOff = s.cu.holdOff
        ∧ ((∃ e, s.cu.exclusion = some e ∧ e.requester ≠ s.mc.number) ∨ 0 < s.cu.holdOff →
          t.cu.state = .waiting ∧ t.re = { s.re with census := ⟨false, false⟩ })
        ∧ ((∀ e, s.cu.exclusion = some e → e.requester = s.mc.number) → s.cu.holdOff = 0 →
          t.cu.state = .running ∧ t.re.census.held = true
          ∧ t.cu.reference = s.ev.table.any fun x => x.level.val == l.toNat)
        ∧ changesOnly [.cu, .re, .pl] s t))
  ∧ (∀ s : State, s.linkReady →
      (s.cu.state = .running → exec .abandonCensus s
        = .next ({ s with cu := { s.cu with state := .abandoned, closeOwed := true } }.withAnswer 0xA1 []))
      ∧ (s.cu.state = .waiting → exec .abandonCensus s
        = .next ({ s with cu := { s.cu with state := .abandoned } }.withAnswer 0xA1 []))
      ∧ (s.cu.state ≠ .running → s.cu.state ≠ .waiting →
        exec .abandonCensus s = .next (s.withAnswer 0xC3 [])))

/-! ## The link -/

/-- LINK_SELECT (R181, R133, R134, R136): with RAILA on an assertion opens a transaction and starts a stopped or failed
clock; with RAILA off only the pin's level is taken, and a level already asserted begins nothing. LINK_DESELECT with
RAILA on (R182, R194, R133): the transaction is over, the link hold is 64, no clearing mark is left, and the flags
marked clearing are cleared exactly when the answer was read out; with RAILA off the pin's level alone is taken. LSO is
at high impedance with RAILA off and with LCS_N deasserted (R181), shows 0 from the assertion to the command byte, and a
byte goes most significant bit first, in and out. -/
def Obligations.SelectAndDeselect : Prop :=
  (∀ s : State,
      (s.pins.lcs = true → exec .linkSelect s = .next s)
      ∧ (s.pins.lcs = false → s.mpc.raila = false →
        exec .linkSelect s = .next { s with pins := { s.pins with lcs := true } })
      ∧ (s.pins.lcs = false → s.pins.rstN = true → s.mpc.raila = true → ∃ t, exec .linkSelect s = .next t
        ∧ t.pl = { s.pl with txn := some .opened } ∧ t.pins = { s.pins with lcs := true } ∧ (∀ k, t.lso k = some 0)
        ∧ t.mu = (if s.mu.clock = .stopped ∨ s.mu.clock = .failed
            then { s.mu with clock := .settling, startTime := some s.time } else s.mu)
        ∧ changesOnly [.pl, .pins, .mu] s t))
  ∧ (∀ (s : State) (n : Nat),
      (s.pins.lcs = false → exec (.linkDeselect n) s = .next s)
      ∧ (s.pins.lcs = true → s.mpc.raila = false →
        exec (.linkDeselect n) s = .next { s with pins := { s.pins with lcs := false } })
      ∧ (s.pins.lcs = true → s.pins.rstN = true → s.mpc.raila = true → ∃ t, exec (.linkDeselect n) s = .next t
        ∧ t.pl.txn = none ∧ t.pl.clearing = 0 ∧ t.mu.linkHold = 64 ∧ t.pins = { s.pins with lcs := false }
        ∧ t.mu.clock = (if s.mu.clock = .stopped then .settling else s.mu.clock)
        ∧ ((∃ a, s.pl.txn = some (.taken a) ∧ a.length ≤ n) → t.pl.events = s.pl.events &&& ~~~s.pl.clearing)
        ∧ ((∀ a, s.pl.txn = some (.taken a) → n < a.length) → t.pl.events = s.pl.events)
        ∧ t.pl.refill = s.pl.refill ∧ t.pl.restore = s.pl.restore ∧ t.pl.store = s.pl.store
        ∧ changesOnly [.pl, .pins, .mu] s t))
  ∧ (∀ (s : State) (k : Nat),
      (s.mpc.raila = false ∨ s.pins.lcs = false → s.lso k = none)
      ∧ ∀ i : Fin 8, s.lsoBit k i = (s.lso k).map fun b => b.getLsbD (7 - i.val))
  ∧ ∀ b : Byte, lsiByte [b.getLsbD 7, b.getLsbD 6, b.getLsbD 5, b.getLsbD 4, b.getLsbD 3, b.getLsbD 2, b.getLsbD 1,
      b.getLsbD 0] = b

/-- UNKNOWN_COMMAND, a byte that names no command (R184): every later byte of the open transaction shows Unknown, whatever
the fast clock's state (log 9). A link command while the fast clock is not Running is refused Busy-clock, which every
later byte shows (R183), and with no transaction open, or with the link dead, it changes nothing at all (R181). Nothing
else changes. That a command is given whole is log 25. -/
def Obligations.UntakenCommandsAreRefused : Prop :=
  (∀ (s : State) (b : Byte), s.linkOpen = true → linkCommandOf b = none →
      exec (.unknownCommand b) s = .next { s with pl := { s.pl with txn := some (.refused 0xE5) } })
  ∧ (∀ (s : State) (b : Byte) (k : Nat), s.mpc.raila = true → s.pins.lcs = true →
      ({ s with pl := { s.pl with txn := some (.refused b) } } : State).lso k = some b)
  ∧ (∀ (s : State) (c : Instr),
      c = .readStationStatus ∨ c = .readCauseTable ∨ c = .readEpisodeTable ∨ c = .readDrainRecord ∨ c = .readCensus
        ∨ c = .readAndClearEvents ∨ (∃ i, c = .readConfigSection i) ∨ (∃ i b, c = .writeConfigSection i b) ∨ c = .fix
        ∨ (∃ a b d e f, c = .postCause a b d e f) ∨ (∃ a, c = .releaseCause a) ∨ (∃ a b d, c = .armTimer a b d)
        ∨ (∃ l, c = .startCensus l) ∨ c = .abandonCensus ∨ c = .hello ∨ c = .park ∨ c = .clearCut
        ∨ c = .requestRefill ∨ c = .requestRestore ∨ c = .rejoin →
      (s.linkOpen = false → exec c s = .next s)
      ∧ (s.linkOpen = true → s.mu.clock ≠ .running →
        exec c s = .next { s with pl := { s.pl with txn := some (.refused 0xB2) } }))

/-- The reads of the station's records (R189, R190, R58, R110, R168, R169): Done with the record of R202, byte by byte, and
nothing else changed; Read Census is Wrong-state in Unconfigured. READ_AND_CLEAR_EVENTS (R194, R203): Done with the event
word, high byte first, and every flag returned set is marked clearing; no flag changes. LSO shows the status byte, then
the response, then 0 (R182, R197). That a self-rails code above 3 shows its low two bits is the model's choice (log
31). -/
def Obligations.ReadsAnswerWithTheirRecords : Prop :=
  (∀ s : State, s.linkReady → exec .readStationStatus s = .next (s.withAnswer 0xA1 [
      if s.mc.state = .unconfigured then 0 else if s.mc.state = .joining then 1 else if s.mc.state = .member then 2
        else if s.mc.state = .degraded then 3 else 4,
      s.mc.number.setWidth 8, s.mc.digest.extractLsb' 8 8, s.mc.digest.extractLsb' 0 8,
      s.mc.counter.extractLsb' 8 8, s.mc.counter.extractLsb' 0 8,
      BitVec.ofNat 8 (s.mc.disagreement.toNat + 2 * s.mpc.frozen.toNat + 4 * s.mu.batteryLow.toNat
        + 8 * s.pl.refill.toNat + 16 * s.pl.restore.toNat),
      BitVec.ofNat 8 (s.mc.rejoin.getD 0),
      if s.mc.lastFault = none then 0 else if s.mc.lastFault = some .duplicate then 1
        else if s.mc.lastFault = some .profile then 2 else if s.mc.lastFault = some .stuckLine then 3
        else if s.mc.lastFault = some .driveFault then 4 else if s.mc.lastFault = some .voidRun then 5 else 6,
      BitVec.ofNat 8 s.re.voids,
      if s.ev.net = .rest then 0 else if s.ev.net = .awake then 1 else 2,
      BitVec.ofNat 8 (16 * s.ev.grade.val + s.da.pressure.val), BitVec.ofNat 8 (16 * s.topLevel.val + s.floor.val),
      s.ev.alarm.setWidth 8,
      if s.mpc.state = .off then 0 else if s.mpc.state = .powering then 1 else if s.mpc.state = .on then 2
        else if s.mpc.state = .parking then 3 else 4,
      BitVec.ofNat 8 s.mpc.loud,
      if s.mu.clock = .stopped then 0 else if s.mu.clock = .settling then 1 else if s.mu.clock = .running then 2
        else 3]))
  ∧ (∀ s : State, s.linkReady → exec .readCauseTable s = .next (s.withAnswer 0xA1
      ((s.ct.slots.flatMap fun c => [
        BitVec.ofNat 8 (32 * c.level.val + 4 * c.cls.val + if c.mode = .level then 2 else 0), c.linger, c.patience,
        BitVec.ofNat 8 (16 * (if c.state = .disabled then 0 else if c.state = .idle then 1
          else if c.state = .pending then 2 else if c.state = .held then 3 else 4) + c.rails.toNat % 4),
        BitVec.ofNat 8 (c.offered.toNat + 2 * c.merged.toNat + 4 * c.expiryHeld.toNat + 8 * c.opened.isSome.toNat),
        BitVec.ofNat 8 (c.countdown / 256), BitVec.ofNat 8 c.countdown,
        (c.opened.getD 0).extractLsb' 8 8, (c.opened.getD 0).extractLsb' 0 8])
      ++ s.ct.timers.flatMap fun w => [
        BitVec.ofNat 8 (w.count / 65536), BitVec.ofNat 8 (w.count / 256), BitVec.ofNat 8 w.count,
        BitVec.ofNat 8 (w.reload / 65536), BitVec.ofNat 8 (w.reload / 256), BitVec.ofNat 8 w.reload,
        BitVec.ofNat 8 (w.periodic.toNat + 2 * w.running.toNat)])))
  ∧ (∀ s : State, s.linkReady → exec .readEpisodeTable s = .next (s.withAnswer 0xA1
      (BitVec.ofNat 8 s.ev.table.length :: (s.ev.table.flatMap fun x => [
        BitVec.ofNat 8 x.level.val,
        BitVec.ofNat 8 (x.exclusive.toNat + 2 * x.suspended.toNat + 4 * x.own.toNat + 8 * x.learned.toNat
          + 16 * x.opened.isSome.toNat + 32 * x.classes.isSome.toNat),
        (x.opened.getD 0).extractLsb' 8 8, (x.opened.getD 0).extractLsb' 0 8, x.classes.getD 0])
      ++ [BitVec.ofNat 8 (16 * s.topLevel.val + s.floor.val)])))
  ∧ (∀ s : State, s.linkReady → exec .readDrainRecord s = .next (s.withAnswer 0xA1
      ((s.da.window.flatMap fun x => [BitVec.ofNat 8 (x.toNat / 256), BitVec.ofNat 8 x.toNat])
      ++ [BitVec.ofNat 8 (s.da.filtered / 256), BitVec.ofNat 8 s.da.filtered,
        BitVec.ofNat 8 (s.da.saturated.toNat + 2 * s.da.exhausted.toNat + 4 * s.mu.batteryLow.toNat
          + 8 * s.mu.quietRecord.isSome.toNat + 16 * s.mu.deficit.isSome.toNat),
        BitVec.ofNat 8 (s.da.spent / 2 ^ 40), BitVec.ofNat 8 (s.da.spent / 2 ^ 32),
        BitVec.ofNat 8 (s.da.spent / 2 ^ 24), BitVec.ofNat 8 (s.da.spent / 2 ^ 16),
        BitVec.ofNat 8 (s.da.spent / 2 ^ 8), BitVec.ofNat 8 s.da.spent,
        BitVec.ofNat 8 (s.balanceMc / 2 ^ 24), BitVec.ofNat 8 (s.balanceMc / 2 ^ 16),
        BitVec.ofNat 8 (s.balanceMc / 2 ^ 8), BitVec.ofNat 8 s.balanceMc,
        BitVec.ofNat 8 (16 * s.da.balanceGrade.val + s.da.rateGrade.val), BitVec.ofNat 8 s.da.pressure.val,
        BitVec.ofNat 8 (s.mu.quietRecord.getD 0 / 256), BitVec.ofNat 8 (s.mu.quietRecord.getD 0),
        BitVec.ofNat 8 (s.mu.deficit.getD 0 / 256), BitVec.ofNat 8 (s.mu.deficit.getD 0),
        BitVec.ofNat 8 s.mpc.loud])))
  ∧ (∀ s : State, s.linkReady →
      (s.fixed = true → exec .readCensus s = .next (s.withAnswer 0xA1
        ([if s.cu.state = .idle then 0 else if s.cu.state = .waiting then 1 else if s.cu.state = .running then 2
            else if s.cu.state = .complete then 3 else 4,
          BitVec.ofNat 8 s.cu.level.val, BitVec.ofNat 8 (s.cu.disturbed.toNat + 2 * s.cu.truncated.toNat),
          BitVec.ofNat 8 s.cu.list.length] ++ s.cu.list.map fun n => BitVec.ofNat 8 n.toNat)))
      ∧ (s.fixed = false → exec .readCensus s = .next (s.withAnswer 0xC3 [])))
  ∧ (∀ s : State, s.linkReady →
      exec .readAndClearEvents s = .next { s with pl := { s.pl with
        clearing := s.pl.events
        txn := some (.taken [0xA1, s.pl.events.extractLsb' 8 8, s.pl.events.extractLsb' 0 8]) } })
  ∧ (∀ (s : State) (x : Byte) (b : List Byte), s.mpc.raila = true → s.pins.lcs = true →
      (s.withAnswer x b).lso 0 = some x ∧ ∀ k, (s.withAnswer x b).lso (k + 1) = some (b.getD k 0))

/-- READ_CONFIG_SECTION (R187): Done with the stored body of the section in every membership state, and Out-of-range with
no response bytes for an identifier that names none. -/
def Obligations.ReadConfigSectionAnswersTheBody : Prop :=
  ∀ s : State, s.linkReady →
    exec (.readConfigSection 1) s = .next (s.withAnswer 0xA1 s.pl.store.identity)
    ∧ exec (.readConfigSection 2) s = .next (s.withAnswer 0xA1 s.pl.store.profile)
    ∧ exec (.readConfigSection 3) s = .next (s.withAnswer 0xA1 s.pl.store.causes)
    ∧ exec (.readConfigSection 4) s = .next (s.withAnswer 0xA1 s.pl.store.attendance)
    ∧ exec (.readConfigSection 5) s = .next (s.withAnswer 0xA1 s.pl.store.modul)
    ∧ exec (.readConfigSection 6) s = .next (s.withAnswer 0xA1 s.pl.store.drain)
    ∧ ∀ i : Byte, i = 0 ∨ 6 < i.toNat → exec (.readConfigSection i) s = .next (s.withAnswer 0xD4 [])

/-- WRITE_CONFIG_SECTION with a complete body (R186, R198): in Unconfigured Done, and the section reads back as the body
with its undefined bits 0, the other sections as they were; Wrong-state once fixed, and Out-of-range for an
identifier that names no section. With fewer bytes than the body has it is not taken: the transaction is in its
Arguments phase and nothing else changes (R182, R186; log 25). -/
def Obligations.WriteConfigSectionReplacesTheBody : Prop :=
  (∀ (s : State) (i : Byte) (b : List Byte) (n : Nat), s.linkReady → bodyLength i = some n → b.length < n →
    exec (.writeConfigSection i b) s = .next { s with pl := { s.pl with txn := some .arguments } })
  ∧ ∀ (s : State) (i : Byte) (b : List Byte), s.linkReady → (Instr.writeConfigSection i b).wellFormed = true →
    (bodyLength i = none → exec (.writeConfigSection i b) s = .next (s.withAnswer 0xD4 []))
    ∧ (bodyLength i ≠ none → s.fixed = true → exec (.writeConfigSection i b) s = .next (s.withAnswer 0xC3 []))
    ∧ (bodyLength i ≠ none → s.fixed = false → ∃ t, exec (.writeConfigSection i b) s = .next t
      ∧ t.pl.txn = some (.taken [0xA1]) ∧ t.pl.store.body i = some (maskBody i b)
      ∧ (maskBody i b).length = b.length ∧ (∀ j, j ≠ i → t.pl.store.body j = s.pl.store.body j)
      ∧ t.pl = { s.pl with txn := t.pl.txn, store := t.pl.store } ∧ changesOnly [.pl] s t)

/-- FIX (R188, R41, R53, R59, R131, R141, R154): with every section sound, Done with 0, Joining with the number and the
digest of the store, the slots and wake timers loaded, the module frozen, and the battery timer and the sample phase
started; with a faulty section Out-of-range with its identifier and nothing changed; Wrong-state once fixed. A section is
faulty as R52, R59, R113, R151, R153 and R200 say, and the first faulty one in the order of R188 is named. -/
def Obligations.FixEntersJoining : Prop :=
  (∀ c : Store,
    (¬ c.identitySound → c.firstFaulty = 1)
    ∧ (c.identitySound → ¬ c.profileSound → c.firstFaulty = 2)
    ∧ (c.identitySound → c.profileSound → ¬ c.causesSound → c.firstFaulty = 3)
    ∧ (c.identitySound → c.profileSound → c.causesSound → ¬ c.attendanceSound → c.firstFaulty = 4)
    ∧ (c.identitySound → c.profileSound → c.causesSound → c.attendanceSound → ¬ c.moduleSound → c.firstFaulty = 5)
    ∧ (c.identitySound → c.profileSound → c.causesSound → c.attendanceSound → c.moduleSound → ¬ c.drainSound →
      c.firstFaulty = 6)
    ∧ (c.identitySound → c.profileSound → c.causesSound → c.attendanceSound → c.moduleSound → c.drainSound →
      c.firstFaulty = 0))
  ∧ ∀ s : State, s.linkReady →
    (s.fixed = true → exec .fix s = .next (s.withAnswer 0xC3 []))
    ∧ (s.fixed = false → s.pl.store.firstFaulty ≠ 0 →
      exec .fix s = .next (s.withAnswer 0xD4 [s.pl.store.firstFaulty]))
    ∧ (s.fixed = false → s.pl.store.firstFaulty = 0 → ∃ t, exec .fix s = .next t
      ∧ t.pl.txn = some (.taken [0xA1, 0]) ∧ t.pl.store = s.pl.store
      ∧ t.mc.state = .joining ∧ t.mc.number = s.pl.store.stationNumber ∧ t.mc.digest = s.pl.store.digest
      ∧ t.mc.counter = s.mc.counter ∧ t.re.join.held = true ∧ t.re.voids = 0
      ∧ (s.lif.state = .silent → t.lif.state = .seeking ∧ t.lif.idleRun = 0)
      ∧ t.ct.slots = s.pl.store.loadSlots ∧ t.ct.timers = [s.pl.store.loadTimer 0, s.pl.store.loadTimer 1]
      ∧ t.mpc = { s.mpc with frozen := true } ∧ t.ev.table = []
      ∧ t.mu.batteryTimer = some (256 * s.pl.store.restBatteryCode) ∧ t.da.phase = some 0
      ∧ t.da.balanceGrade = t.balanceGradeNow ∧ t.da.rateGrade = t.rateGradeNow
      ∧ t.da.spent = s.da.spent ∧ noticeFrame s t ∧ changesOnly [.lif, .re, .mc, .ct, .ev, .mpc, .mu, .da, .pl] s t)

/-- The profile digest is the one's-complement sum of the four words, each carry out of bit 15 added back into bit 0
(R53). -/
def Obligations.DigestIsTheOnesComplementSum : Prop :=
  ∀ a w : Half,
    ((a.toNat + w.toNat < 65536 → onesAdd a w = a + w) ∧ (65536 ≤ a.toNat + w.toNat → onesAdd a w = a + w + 1))
    ∧ ∀ c : Store, c.digest = onesAdd (onesAdd (onesAdd (onesAdd 0 (halfAt c.profile 0)) (halfAt c.profile 2))
        (halfAt c.profile 4)) (halfAt c.profile 6)

/-- POST_CAUSE (R66, R68, R199): Out-of-range for a slot outside 7 to 15, level 0, linger 0 or an undefined rails code,
then Wrong-state in Unconfigured; a Disabled or Idle slot takes the fields and is Pending, a Pending one is merged, a
Lingering Momentary one starts its linger again, and a Held one is answered Wrong-state, as is a Lingering Level-mode one
(the model's choice, log 18). -/
def Obligations.PostCauseTriggersItsSlot : Prop :=
  ∀ (s : State) (slot cause linger patience rails : Byte), s.linkReady → s.ct.slots.length = 16 →
    (slot.toNat < 7 ∨ 15 < slot.toNat ∨ causeLevel cause = 0 ∨ linger = 0
        ∨ ¬ (rails = 0 ∨ rails = 1 ∨ rails = 3) →
      exec (.postCause slot cause linger patience rails) s = .next (s.withAnswer 0xD4 []))
    ∧ (7 ≤ slot.toNat → slot.toNat ≤ 15 → causeLevel cause ≠ 0 → linger ≠ 0 →
        rails = 0 ∨ rails = 1 ∨ rails = 3 →
      (s.fixed = false → exec (.postCause slot cause linger patience rails) s = .next (s.withAnswer 0xC3 []))
      ∧ (s.fixed = true → (s.slot slot.toNat).state = .held →
        exec (.postCause slot cause linger patience rails) s = .next (s.withAnswer 0xC3 []))
      ∧ (s.fixed = true → (s.slot slot.toNat).state = .lingering → (s.slot slot.toNat).mode = .level →
        exec (.postCause slot cause linger patience rails) s = .next (s.withAnswer 0xC3 []))
      ∧ (s.fixed = true → (s.slot slot.toNat).state = .disabled ∨ (s.slot slot.toNat).state = .idle →
        ∃ t, exec (.postCause slot cause linger patience rails) s = .next t
        ∧ t.pl = { s.pl with txn := some (.taken [0xA1]) }
        ∧ t.slot slot.toNat = {
            level := causeLevel cause, cls := causeClass cause, mode := causeMode cause, linger := linger
            patience := patience, rails := rails, state := .pending, offered := false, merged := false
            expiryHeld := false, countdown := 16 * patience.toNat, opened := none }
        ∧ (∀ j, j ≠ slot.toNat → t.slot j = s.slot j) ∧ (s.mc.state = .member → t.re.status.held = true)
        ∧ changesOnly [.ct, .re, .mc, .pl] s t ∧ wantFrame s t)
      ∧ (s.fixed = true → (s.slot slot.toNat).state = .pending →
        ∃ t, exec (.postCause slot cause linger patience rails) s = .next t
        ∧ t.pl = { s.pl with txn := some (.taken [0xA1]) }
        ∧ t.slot slot.toNat = { s.slot slot.toNat with merged := true }
        ∧ (∀ j, j ≠ slot.toNat → t.slot j = s.slot j) ∧ changesOnly [.ct, .pl] s t)
      ∧ (s.fixed = true → (s.slot slot.toNat).state = .lingering → (s.slot slot.toNat).mode = .momentary →
        ∃ t, exec (.postCause slot cause linger patience rails) s = .next t
        ∧ t.pl = { s.pl with txn := some (.taken [0xA1]) }
        ∧ t.slot slot.toNat = { s.slot slot.toNat with countdown := 4 * (s.slot slot.toNat).linger.toNat }
        ∧ (∀ j, j ≠ slot.toNat → t.slot j = s.slot j) ∧ changesOnly [.ct, .pl] s t))

/-- RELEASE_CAUSE (R67): Out-of-range outside slots 7 to 15, Wrong-state for a Disabled slot, else Done and Idle with the
countdown 0, the marks clear and the opened round absent; a Pending or holding cause raises a Status want. -/
def Obligations.ReleaseCauseGoesIdle : Prop :=
  ∀ (s : State) (slot : Byte), s.linkReady → s.ct.slots.length = 16 →
    (slot.toNat < 7 ∨ 15 < slot.toNat → exec (.releaseCause slot) s = .next (s.withAnswer 0xD4 []))
    ∧ (7 ≤ slot.toNat → slot.toNat ≤ 15 → (s.slot slot.toNat).state = .disabled →
      exec (.releaseCause slot) s = .next (s.withAnswer 0xC3 []))
    ∧ (7 ≤ slot.toNat → slot.toNat ≤ 15 → (s.slot slot.toNat).state ≠ .disabled →
      ∃ t, exec (.releaseCause slot) s = .next t ∧ t.pl.txn = some (.taken [0xA1]) ∧ t.pl.store = s.pl.store
      ∧ t.slot slot.toNat = { s.slot slot.toNat with
          state := .idle, offered := false, merged := false, expiryHeld := false, countdown := 0, opened := none }
      ∧ (∀ j, j ≠ slot.toNat → t.slot j = s.slot j) ∧ t.ct.offers = s.ct.offers
      ∧ t.lif = s.lif ∧ t.ev = s.ev ∧ t.cu = s.cu ∧ t.pins = s.pins
      ∧ wantFrame s t ∧ noticeFrame s t
      ∧ ((s.slot slot.toNat).state ≠ .idle → s.mc.state = .member → t.re.status.held = true)
      ∧ ((s.slot slot.toNat).state = .idle → t.re = s.re ∧ t.mc = s.mc ∧ t.mpc = s.mpc))

/-- ARM_TIMER (R64, R199): Out-of-range for a timer above 1 or a mode above 1, then Wrong-state in Unconfigured; else Done:
a count of 1 or more loads count and reload and starts the timer in the mode, and a count of 0 stops it at 0. -/
def Obligations.ArmTimerLoadsTheTimer : Prop :=
  ∀ (s : State) (n : Byte) (count : BitVec 24) (mode : Byte), s.linkReady → s.ct.timers.length = 2 →
    (1 < n.toNat ∨ 1 < mode.toNat → exec (.armTimer n count mode) s = .next (s.withAnswer 0xD4 []))
    ∧ (n.toNat ≤ 1 → mode.toNat ≤ 1 → s.fixed = false →
      exec (.armTimer n count mode) s = .next (s.withAnswer 0xC3 []))
    ∧ (n.toNat ≤ 1 → mode.toNat ≤ 1 → s.fixed = true → ∃ t, exec (.armTimer n count mode) s = .next t
      ∧ t.pl = { s.pl with txn := some (.taken [0xA1]) }
      ∧ (count ≠ 0 → t.timer n.toNat = ⟨count.toNat, count.toNat, mode == 1, true⟩)
      ∧ (count = 0 → t.timer n.toNat = { s.timer n.toNat with count := 0, running := false })
      ∧ (∀ m, m ≠ n.toNat → t.timer m = s.timer m) ∧ t.ct = { s.ct with timers := t.ct.timers }
      ∧ changesOnly [.ct, .pl] s t)

/-- REQUEST_REFILL and REQUEST_RESTORE (R191): Wrong-state in Unconfigured with no change; else Done with the request held
and a Status want raised. -/
def Obligations.NoticeRequestsAreHeld : Prop :=
  ∀ s : State, s.linkReady →
    (s.fixed = false → exec .requestRefill s = .next (s.withAnswer 0xC3 [])
      ∧ exec .requestRestore s = .next (s.withAnswer 0xC3 []))
    ∧ (s.fixed = true → ∃ t u, exec .requestRefill s = .next t ∧ exec .requestRestore s = .next u
      ∧ t.pl = { s.pl with refill := true, txn := some (.taken [0xA1]) }
      ∧ u.pl = { s.pl with restore := true, txn := some (.taken [0xA1]) }
      ∧ (s.mc.state = .member → t.re.status.held = true ∧ u.re.status.held = true)
      ∧ (s.isLocal = true → t.mc.decisionDue = true ∧ u.mc.decisionDue = true)
      ∧ (s.mc.state = .joining → t.re = s.re ∧ u.re = s.re)
      ∧ changesOnly [.pl, .re, .mc] s t ∧ wantFrame s t ∧ changesOnly [.pl, .re, .mc] s u ∧ wantFrame s u)

/-- REJOIN (R51): Isolated enters Joining with a Join want, an empty table and a frozen module, Done; Degraded stops the
rejoin timer and has a Join want, Done; every other state is answered Wrong-state with no change. -/
def Obligations.RejoinByMembership : Prop :=
  ∀ s : State, s.linkReady →
    (s.mc.state = .isolated → ∃ t, exec .rejoin s = .next t ∧ t.pl.txn = some (.taken [0xA1])
      ∧ t.mc.state = .joining ∧ t.re.join.held = true ∧ t.re.voids = 0 ∧ t.ev.table = [] ∧ t.mpc.frozen = true
      ∧ (s.lif.state = .silent → t.lif.state = .seeking ∧ t.lif.idleRun = 0)
      ∧ t.mc.number = s.mc.number ∧ t.mc.digest = s.mc.digest ∧ t.pl.store = s.pl.store ∧ t.ct = s.ct
      ∧ t.mpc = { s.mpc with frozen := true } ∧ noticeFrame s t
      ∧ changesOnly [.lif, .re, .mc, .ev, .mpc, .mu, .pl] s t)
    ∧ (s.mc.state = .degraded → ∃ t, exec .rejoin s = .next t
      ∧ t.pl = { s.pl with txn := some (.taken [0xA1]) } ∧ t.mc = { s.mc with rejoin := none }
      ∧ t.re.join.held = true ∧ changesOnly [.re, .mc, .pl] s t)
    ∧ (s.mc.state = .unconfigured ∨ s.mc.state = .joining ∨ s.mc.state = .member →
      exec .rejoin s = .next (s.withAnswer 0xC3 []))

/-- ATTN is asserted exactly while RAILA is on and some event flag is set whose bit is set in the stored event mask
(R195). -/
def Obligations.AttnFollowsTheMaskedFlags : Prop :=
  ∀ s : State, s.attn = true ↔
    s.mpc.raila = true ∧ ∃ i < 16, s.pl.events.getLsbD i = true ∧ s.pl.store.eventMask.getLsbD i = true

end
end

