-- ==== Sys2Proof/Laws/State.lean ====
section
/-! SUPPORT. Each update of one block, read at every block: true by rfl, so that no proof unfolds a record update. -/

namespace Sys2Proof.Machine

variable (s : State)

@[simp] theorem State.withLif_lif (x : Lif) : (s.withLif x).lif = x := (rfl)
@[simp] theorem State.withLif_re (x : Lif) : (s.withLif x).re = s.re := (rfl)
@[simp] theorem State.withLif_mc (x : Lif) : (s.withLif x).mc = s.mc := (rfl)
@[simp] theorem State.withLif_ct (x : Lif) : (s.withLif x).ct = s.ct := (rfl)
@[simp] theorem State.withLif_ev (x : Lif) : (s.withLif x).ev = s.ev := (rfl)
@[simp] theorem State.withLif_mpc (x : Lif) : (s.withLif x).mpc = s.mpc := (rfl)
@[simp] theorem State.withLif_mu (x : Lif) : (s.withLif x).mu = s.mu := (rfl)
@[simp] theorem State.withLif_da (x : Lif) : (s.withLif x).da = s.da := (rfl)
@[simp] theorem State.withLif_cu (x : Lif) : (s.withLif x).cu = s.cu := (rfl)
@[simp] theorem State.withLif_pl (x : Lif) : (s.withLif x).pl = s.pl := (rfl)
@[simp] theorem State.withLif_pins (x : Lif) : (s.withLif x).pins = s.pins := (rfl)
@[simp] theorem State.withLif_time (x : Lif) : (s.withLif x).time = s.time := (rfl)
@[simp] theorem State.withLif_pending (x : Lif) : (s.withLif x).pending = s.pending := (rfl)

@[simp] theorem State.withRe_lif (x : Re) : (s.withRe x).lif = s.lif := (rfl)
@[simp] theorem State.withRe_re (x : Re) : (s.withRe x).re = x := (rfl)
@[simp] theorem State.withRe_mc (x : Re) : (s.withRe x).mc = s.mc := (rfl)
@[simp] theorem State.withRe_ct (x : Re) : (s.withRe x).ct = s.ct := (rfl)
@[simp] theorem State.withRe_ev (x : Re) : (s.withRe x).ev = s.ev := (rfl)
@[simp] theorem State.withRe_mpc (x : Re) : (s.withRe x).mpc = s.mpc := (rfl)
@[simp] theorem State.withRe_mu (x : Re) : (s.withRe x).mu = s.mu := (rfl)
@[simp] theorem State.withRe_da (x : Re) : (s.withRe x).da = s.da := (rfl)
@[simp] theorem State.withRe_cu (x : Re) : (s.withRe x).cu = s.cu := (rfl)
@[simp] theorem State.withRe_pl (x : Re) : (s.withRe x).pl = s.pl := (rfl)
@[simp] theorem State.withRe_pins (x : Re) : (s.withRe x).pins = s.pins := (rfl)
@[simp] theorem State.withRe_time (x : Re) : (s.withRe x).time = s.time := (rfl)
@[simp] theorem State.withRe_pending (x : Re) : (s.withRe x).pending = s.pending := (rfl)

@[simp] theorem State.withMc_lif (x : Mc) : (s.withMc x).lif = s.lif := (rfl)
@[simp] theorem State.withMc_re (x : Mc) : (s.withMc x).re = s.re := (rfl)
@[simp] theorem State.withMc_mc (x : Mc) : (s.withMc x).mc = x := (rfl)
@[simp] theorem State.withMc_ct (x : Mc) : (s.withMc x).ct = s.ct := (rfl)
@[simp] theorem State.withMc_ev (x : Mc) : (s.withMc x).ev = s.ev := (rfl)
@[simp] theorem State.withMc_mpc (x : Mc) : (s.withMc x).mpc = s.mpc := (rfl)
@[simp] theorem State.withMc_mu (x : Mc) : (s.withMc x).mu = s.mu := (rfl)
@[simp] theorem State.withMc_da (x : Mc) : (s.withMc x).da = s.da := (rfl)
@[simp] theorem State.withMc_cu (x : Mc) : (s.withMc x).cu = s.cu := (rfl)
@[simp] theorem State.withMc_pl (x : Mc) : (s.withMc x).pl = s.pl := (rfl)
@[simp] theorem State.withMc_pins (x : Mc) : (s.withMc x).pins = s.pins := (rfl)
@[simp] theorem State.withMc_time (x : Mc) : (s.withMc x).time = s.time := (rfl)
@[simp] theorem State.withMc_pending (x : Mc) : (s.withMc x).pending = s.pending := (rfl)

@[simp] theorem State.withCt_lif (x : Ct) : (s.withCt x).lif = s.lif := (rfl)
@[simp] theorem State.withCt_re (x : Ct) : (s.withCt x).re = s.re := (rfl)
@[simp] theorem State.withCt_mc (x : Ct) : (s.withCt x).mc = s.mc := (rfl)
@[simp] theorem State.withCt_ct (x : Ct) : (s.withCt x).ct = x := (rfl)
@[simp] theorem State.withCt_ev (x : Ct) : (s.withCt x).ev = s.ev := (rfl)
@[simp] theorem State.withCt_mpc (x : Ct) : (s.withCt x).mpc = s.mpc := (rfl)
@[simp] theorem State.withCt_mu (x : Ct) : (s.withCt x).mu = s.mu := (rfl)
@[simp] theorem State.withCt_da (x : Ct) : (s.withCt x).da = s.da := (rfl)
@[simp] theorem State.withCt_cu (x : Ct) : (s.withCt x).cu = s.cu := (rfl)
@[simp] theorem State.withCt_pl (x : Ct) : (s.withCt x).pl = s.pl := (rfl)
@[simp] theorem State.withCt_pins (x : Ct) : (s.withCt x).pins = s.pins := (rfl)
@[simp] theorem State.withCt_time (x : Ct) : (s.withCt x).time = s.time := (rfl)
@[simp] theorem State.withCt_pending (x : Ct) : (s.withCt x).pending = s.pending := (rfl)

@[simp] theorem State.withEv_lif (x : Ev) : (s.withEv x).lif = s.lif := (rfl)
@[simp] theorem State.withEv_re (x : Ev) : (s.withEv x).re = s.re := (rfl)
@[simp] theorem State.withEv_mc (x : Ev) : (s.withEv x).mc = s.mc := (rfl)
@[simp] theorem State.withEv_ct (x : Ev) : (s.withEv x).ct = s.ct := (rfl)
@[simp] theorem State.withEv_ev (x : Ev) : (s.withEv x).ev = x := (rfl)
@[simp] theorem State.withEv_mpc (x : Ev) : (s.withEv x).mpc = s.mpc := (rfl)
@[simp] theorem State.withEv_mu (x : Ev) : (s.withEv x).mu = s.mu := (rfl)
@[simp] theorem State.withEv_da (x : Ev) : (s.withEv x).da = s.da := (rfl)
@[simp] theorem State.withEv_cu (x : Ev) : (s.withEv x).cu = s.cu := (rfl)
@[simp] theorem State.withEv_pl (x : Ev) : (s.withEv x).pl = s.pl := (rfl)
@[simp] theorem State.withEv_pins (x : Ev) : (s.withEv x).pins = s.pins := (rfl)
@[simp] theorem State.withEv_time (x : Ev) : (s.withEv x).time = s.time := (rfl)
@[simp] theorem State.withEv_pending (x : Ev) : (s.withEv x).pending = s.pending := (rfl)

@[simp] theorem State.withMpc_lif (x : Mpc) : (s.withMpc x).lif = s.lif := (rfl)
@[simp] theorem State.withMpc_re (x : Mpc) : (s.withMpc x).re = s.re := (rfl)
@[simp] theorem State.withMpc_mc (x : Mpc) : (s.withMpc x).mc = s.mc := (rfl)
@[simp] theorem State.withMpc_ct (x : Mpc) : (s.withMpc x).ct = s.ct := (rfl)
@[simp] theorem State.withMpc_ev (x : Mpc) : (s.withMpc x).ev = s.ev := (rfl)
@[simp] theorem State.withMpc_mpc (x : Mpc) : (s.withMpc x).mpc = x := (rfl)
@[simp] theorem State.withMpc_mu (x : Mpc) : (s.withMpc x).mu = s.mu := (rfl)
@[simp] theorem State.withMpc_da (x : Mpc) : (s.withMpc x).da = s.da := (rfl)
@[simp] theorem State.withMpc_cu (x : Mpc) : (s.withMpc x).cu = s.cu := (rfl)
@[simp] theorem State.withMpc_pl (x : Mpc) : (s.withMpc x).pl = s.pl := (rfl)
@[simp] theorem State.withMpc_pins (x : Mpc) : (s.withMpc x).pins = s.pins := (rfl)
@[simp] theorem State.withMpc_time (x : Mpc) : (s.withMpc x).time = s.time := (rfl)
@[simp] theorem State.withMpc_pending (x : Mpc) : (s.withMpc x).pending = s.pending := (rfl)

@[simp] theorem State.withMu_lif (x : Mu) : (s.withMu x).lif = s.lif := (rfl)
@[simp] theorem State.withMu_re (x : Mu) : (s.withMu x).re = s.re := (rfl)
@[simp] theorem State.withMu_mc (x : Mu) : (s.withMu x).mc = s.mc := (rfl)
@[simp] theorem State.withMu_ct (x : Mu) : (s.withMu x).ct = s.ct := (rfl)
@[simp] theorem State.withMu_ev (x : Mu) : (s.withMu x).ev = s.ev := (rfl)
@[simp] theorem State.withMu_mpc (x : Mu) : (s.withMu x).mpc = s.mpc := (rfl)
@[simp] theorem State.withMu_mu (x : Mu) : (s.withMu x).mu = x := (rfl)
@[simp] theorem State.withMu_da (x : Mu) : (s.withMu x).da = s.da := (rfl)
@[simp] theorem State.withMu_cu (x : Mu) : (s.withMu x).cu = s.cu := (rfl)
@[simp] theorem State.withMu_pl (x : Mu) : (s.withMu x).pl = s.pl := (rfl)
@[simp] theorem State.withMu_pins (x : Mu) : (s.withMu x).pins = s.pins := (rfl)
@[simp] theorem State.withMu_time (x : Mu) : (s.withMu x).time = s.time := (rfl)
@[simp] theorem State.withMu_pending (x : Mu) : (s.withMu x).pending = s.pending := (rfl)

@[simp] theorem State.withDa_lif (x : Da) : (s.withDa x).lif = s.lif := (rfl)
@[simp] theorem State.withDa_re (x : Da) : (s.withDa x).re = s.re := (rfl)
@[simp] theorem State.withDa_mc (x : Da) : (s.withDa x).mc = s.mc := (rfl)
@[simp] theorem State.withDa_ct (x : Da) : (s.withDa x).ct = s.ct := (rfl)
@[simp] theorem State.withDa_ev (x : Da) : (s.withDa x).ev = s.ev := (rfl)
@[simp] theorem State.withDa_mpc (x : Da) : (s.withDa x).mpc = s.mpc := (rfl)
@[simp] theorem State.withDa_mu (x : Da) : (s.withDa x).mu = s.mu := (rfl)
@[simp] theorem State.withDa_da (x : Da) : (s.withDa x).da = x := (rfl)
@[simp] theorem State.withDa_cu (x : Da) : (s.withDa x).cu = s.cu := (rfl)
@[simp] theorem State.withDa_pl (x : Da) : (s.withDa x).pl = s.pl := (rfl)
@[simp] theorem State.withDa_pins (x : Da) : (s.withDa x).pins = s.pins := (rfl)
@[simp] theorem State.withDa_time (x : Da) : (s.withDa x).time = s.time := (rfl)
@[simp] theorem State.withDa_pending (x : Da) : (s.withDa x).pending = s.pending := (rfl)

@[simp] theorem State.withCu_lif (x : Cu) : (s.withCu x).lif = s.lif := (rfl)
@[simp] theorem State.withCu_re (x : Cu) : (s.withCu x).re = s.re := (rfl)
@[simp] theorem State.withCu_mc (x : Cu) : (s.withCu x).mc = s.mc := (rfl)
@[simp] theorem State.withCu_ct (x : Cu) : (s.withCu x).ct = s.ct := (rfl)
@[simp] theorem State.withCu_ev (x : Cu) : (s.withCu x).ev = s.ev := (rfl)
@[simp] theorem State.withCu_mpc (x : Cu) : (s.withCu x).mpc = s.mpc := (rfl)
@[simp] theorem State.withCu_mu (x : Cu) : (s.withCu x).mu = s.mu := (rfl)
@[simp] theorem State.withCu_da (x : Cu) : (s.withCu x).da = s.da := (rfl)
@[simp] theorem State.withCu_cu (x : Cu) : (s.withCu x).cu = x := (rfl)
@[simp] theorem State.withCu_pl (x : Cu) : (s.withCu x).pl = s.pl := (rfl)
@[simp] theorem State.withCu_pins (x : Cu) : (s.withCu x).pins = s.pins := (rfl)
@[simp] theorem State.withCu_time (x : Cu) : (s.withCu x).time = s.time := (rfl)
@[simp] theorem State.withCu_pending (x : Cu) : (s.withCu x).pending = s.pending := (rfl)

@[simp] theorem State.withPl_lif (x : Pl) : (s.withPl x).lif = s.lif := (rfl)
@[simp] theorem State.withPl_re (x : Pl) : (s.withPl x).re = s.re := (rfl)
@[simp] theorem State.withPl_mc (x : Pl) : (s.withPl x).mc = s.mc := (rfl)
@[simp] theorem State.withPl_ct (x : Pl) : (s.withPl x).ct = s.ct := (rfl)
@[simp] theorem State.withPl_ev (x : Pl) : (s.withPl x).ev = s.ev := (rfl)
@[simp] theorem State.withPl_mpc (x : Pl) : (s.withPl x).mpc = s.mpc := (rfl)
@[simp] theorem State.withPl_mu (x : Pl) : (s.withPl x).mu = s.mu := (rfl)
@[simp] theorem State.withPl_da (x : Pl) : (s.withPl x).da = s.da := (rfl)
@[simp] theorem State.withPl_cu (x : Pl) : (s.withPl x).cu = s.cu := (rfl)
@[simp] theorem State.withPl_pl (x : Pl) : (s.withPl x).pl = x := (rfl)
@[simp] theorem State.withPl_pins (x : Pl) : (s.withPl x).pins = s.pins := (rfl)
@[simp] theorem State.withPl_time (x : Pl) : (s.withPl x).time = s.time := (rfl)
@[simp] theorem State.withPl_pending (x : Pl) : (s.withPl x).pending = s.pending := (rfl)

@[simp] theorem State.withPins_lif (x : Pins) : (s.withPins x).lif = s.lif := (rfl)
@[simp] theorem State.withPins_re (x : Pins) : (s.withPins x).re = s.re := (rfl)
@[simp] theorem State.withPins_mc (x : Pins) : (s.withPins x).mc = s.mc := (rfl)
@[simp] theorem State.withPins_ct (x : Pins) : (s.withPins x).ct = s.ct := (rfl)
@[simp] theorem State.withPins_ev (x : Pins) : (s.withPins x).ev = s.ev := (rfl)
@[simp] theorem State.withPins_mpc (x : Pins) : (s.withPins x).mpc = s.mpc := (rfl)
@[simp] theorem State.withPins_mu (x : Pins) : (s.withPins x).mu = s.mu := (rfl)
@[simp] theorem State.withPins_da (x : Pins) : (s.withPins x).da = s.da := (rfl)
@[simp] theorem State.withPins_cu (x : Pins) : (s.withPins x).cu = s.cu := (rfl)
@[simp] theorem State.withPins_pl (x : Pins) : (s.withPins x).pl = s.pl := (rfl)
@[simp] theorem State.withPins_pins (x : Pins) : (s.withPins x).pins = x := (rfl)
@[simp] theorem State.withPins_time (x : Pins) : (s.withPins x).time = s.time := (rfl)
@[simp] theorem State.withPins_pending (x : Pins) : (s.withPins x).pending = s.pending := (rfl)

@[simp] theorem State.withTime_lif (x : Nat) : (s.withTime x).lif = s.lif := (rfl)
@[simp] theorem State.withTime_re (x : Nat) : (s.withTime x).re = s.re := (rfl)
@[simp] theorem State.withTime_mc (x : Nat) : (s.withTime x).mc = s.mc := (rfl)
@[simp] theorem State.withTime_ct (x : Nat) : (s.withTime x).ct = s.ct := (rfl)
@[simp] theorem State.withTime_ev (x : Nat) : (s.withTime x).ev = s.ev := (rfl)
@[simp] theorem State.withTime_mpc (x : Nat) : (s.withTime x).mpc = s.mpc := (rfl)
@[simp] theorem State.withTime_mu (x : Nat) : (s.withTime x).mu = s.mu := (rfl)
@[simp] theorem State.withTime_da (x : Nat) : (s.withTime x).da = s.da := (rfl)
@[simp] theorem State.withTime_cu (x : Nat) : (s.withTime x).cu = s.cu := (rfl)
@[simp] theorem State.withTime_pl (x : Nat) : (s.withTime x).pl = s.pl := (rfl)
@[simp] theorem State.withTime_pins (x : Nat) : (s.withTime x).pins = s.pins := (rfl)
@[simp] theorem State.withTime_time (x : Nat) : (s.withTime x).time = x := (rfl)
@[simp] theorem State.withTime_pending (x : Nat) : (s.withTime x).pending = s.pending := (rfl)

@[simp] theorem State.withPending_lif (x : List Instr) : (s.withPending x).lif = s.lif := (rfl)
@[simp] theorem State.withPending_re (x : List Instr) : (s.withPending x).re = s.re := (rfl)
@[simp] theorem State.withPending_mc (x : List Instr) : (s.withPending x).mc = s.mc := (rfl)
@[simp] theorem State.withPending_ct (x : List Instr) : (s.withPending x).ct = s.ct := (rfl)
@[simp] theorem State.withPending_ev (x : List Instr) : (s.withPending x).ev = s.ev := (rfl)
@[simp] theorem State.withPending_mpc (x : List Instr) : (s.withPending x).mpc = s.mpc := (rfl)
@[simp] theorem State.withPending_mu (x : List Instr) : (s.withPending x).mu = s.mu := (rfl)
@[simp] theorem State.withPending_da (x : List Instr) : (s.withPending x).da = s.da := (rfl)
@[simp] theorem State.withPending_cu (x : List Instr) : (s.withPending x).cu = s.cu := (rfl)
@[simp] theorem State.withPending_pl (x : List Instr) : (s.withPending x).pl = s.pl := (rfl)
@[simp] theorem State.withPending_pins (x : List Instr) : (s.withPending x).pins = s.pins := (rfl)
@[simp] theorem State.withPending_time (x : List Instr) : (s.withPending x).time = s.time := (rfl)
@[simp] theorem State.withPending_pending (x : List Instr) : (s.withPending x).pending = x := (rfl)

end Sys2Proof.Machine
end

