-- ==== Sys2Proof/Laws/FramesDrain.lean ====
section
/-! SUPPORT. What each operation of Machine/Drain.lean leaves alone: one lemma per operation, by parts of the state. -/

namespace Sys2Proof.Machine

variable (s : State)

@[simp] theorem raiseEvent_frame (e : Event) :
    (raiseEvent e s).lif = s.lif ∧ (raiseEvent e s).re = s.re ∧ (raiseEvent e s).mc = s.mc
      ∧ (raiseEvent e s).ct = s.ct ∧ (raiseEvent e s).ev = s.ev ∧ (raiseEvent e s).mpc = s.mpc
      ∧ (raiseEvent e s).mu = s.mu ∧ (raiseEvent e s).da = s.da ∧ (raiseEvent e s).cu = s.cu
      ∧ (raiseEvent e s).pins = s.pins ∧ (raiseEvent e s).time = s.time ∧ (raiseEvent e s).pending = s.pending
      ∧ (raiseEvent e s).pl.store = s.pl.store := by
  simp [raiseEvent]

@[simp] theorem raiseStatus_frame :
    (raiseStatus s).lif = s.lif ∧ (raiseStatus s).ct = s.ct ∧ (raiseStatus s).ev = s.ev
      ∧ (raiseStatus s).mpc = s.mpc ∧ (raiseStatus s).mu = s.mu ∧ (raiseStatus s).da = s.da
      ∧ (raiseStatus s).cu = s.cu ∧ (raiseStatus s).pl = s.pl ∧ (raiseStatus s).pins = s.pins
      ∧ (raiseStatus s).time = s.time ∧ (raiseStatus s).pending = s.pending
      ∧ (raiseStatus s).mc.state = s.mc.state := by
  simp only [raiseStatus]
  split <;> simp

@[simp] theorem raiseRest_frame :
    (raiseRest s).lif = s.lif ∧ (raiseRest s).mc = s.mc ∧ (raiseRest s).ct = s.ct ∧ (raiseRest s).ev = s.ev
      ∧ (raiseRest s).mpc = s.mpc ∧ (raiseRest s).mu = s.mu ∧ (raiseRest s).da = s.da ∧ (raiseRest s).cu = s.cu
      ∧ (raiseRest s).pl = s.pl ∧ (raiseRest s).pins = s.pins ∧ (raiseRest s).time = s.time
      ∧ (raiseRest s).pending = s.pending := by
  simp only [raiseRest]
  split <;> simp

@[simp] theorem raiseCensus_frame :
    (raiseCensus s).lif = s.lif ∧ (raiseCensus s).mc = s.mc ∧ (raiseCensus s).ct = s.ct
      ∧ (raiseCensus s).ev = s.ev ∧ (raiseCensus s).mpc = s.mpc ∧ (raiseCensus s).mu = s.mu
      ∧ (raiseCensus s).da = s.da ∧ (raiseCensus s).cu = s.cu ∧ (raiseCensus s).pl = s.pl
      ∧ (raiseCensus s).pins = s.pins ∧ (raiseCensus s).time = s.time ∧ (raiseCensus s).pending = s.pending := by
  simp only [raiseCensus]
  split <;> simp

@[simp] theorem raiseJoin_frame :
    (raiseJoin s).lif = s.lif ∧ (raiseJoin s).mc = s.mc ∧ (raiseJoin s).ct = s.ct ∧ (raiseJoin s).ev = s.ev
      ∧ (raiseJoin s).mpc = s.mpc ∧ (raiseJoin s).mu = s.mu ∧ (raiseJoin s).da = s.da ∧ (raiseJoin s).cu = s.cu
      ∧ (raiseJoin s).pl = s.pl ∧ (raiseJoin s).pins = s.pins ∧ (raiseJoin s).time = s.time
      ∧ (raiseJoin s).pending = s.pending := by
  unfold raiseJoin; split <;> simp

@[simp] theorem withdrawRest_frame :
    (withdrawRest s).lif = s.lif ∧ (withdrawRest s).mc = s.mc ∧ (withdrawRest s).ct = s.ct
      ∧ (withdrawRest s).ev = s.ev ∧ (withdrawRest s).mpc = s.mpc ∧ (withdrawRest s).mu = s.mu
      ∧ (withdrawRest s).da = s.da ∧ (withdrawRest s).cu = s.cu ∧ (withdrawRest s).pl = s.pl
      ∧ (withdrawRest s).pins = s.pins ∧ (withdrawRest s).time = s.time ∧ (withdrawRest s).pending = s.pending := by
  simp [withdrawRest]

@[simp] theorem withdrawCensus_frame :
    (withdrawCensus s).lif = s.lif ∧ (withdrawCensus s).mc = s.mc ∧ (withdrawCensus s).ct = s.ct
      ∧ (withdrawCensus s).ev = s.ev ∧ (withdrawCensus s).mpc = s.mpc ∧ (withdrawCensus s).mu = s.mu
      ∧ (withdrawCensus s).da = s.da ∧ (withdrawCensus s).cu = s.cu ∧ (withdrawCensus s).pl = s.pl
      ∧ (withdrawCensus s).pins = s.pins ∧ (withdrawCensus s).time = s.time
      ∧ (withdrawCensus s).pending = s.pending := by
  simp [withdrawCensus]

@[simp] theorem regrade_frame :
    (regrade s).lif = s.lif ∧ (regrade s).re = s.re ∧ (regrade s).mc = s.mc ∧ (regrade s).ct = s.ct
      ∧ (regrade s).ev = s.ev ∧ (regrade s).mpc = s.mpc ∧ (regrade s).mu = s.mu ∧ (regrade s).cu = s.cu
      ∧ (regrade s).pl = s.pl ∧ (regrade s).pins = s.pins ∧ (regrade s).time = s.time
      ∧ (regrade s).pending = s.pending := by
  simp only [regrade]
  split <;> simp

@[simp] theorem recomputeGrades_frame :
    (recomputeGrades s).lif = s.lif ∧ (recomputeGrades s).ct = s.ct ∧ (recomputeGrades s).ev = s.ev
      ∧ (recomputeGrades s).mpc = s.mpc ∧ (recomputeGrades s).mu = s.mu ∧ (recomputeGrades s).cu = s.cu
      ∧ (recomputeGrades s).pins = s.pins ∧ (recomputeGrades s).time = s.time
      ∧ (recomputeGrades s).pending = s.pending ∧ (recomputeGrades s).pl.store = s.pl.store
      ∧ (recomputeGrades s).mc.state = s.mc.state := by
  simp only [recomputeGrades]
  split <;> simp

@[simp] theorem charge_frame (n : Nat) :
    (charge n s).lif = s.lif ∧ (charge n s).re = s.re ∧ (charge n s).mc = s.mc ∧ (charge n s).ct = s.ct
      ∧ (charge n s).ev = s.ev ∧ (charge n s).mpc = s.mpc ∧ (charge n s).mu = s.mu ∧ (charge n s).cu = s.cu
      ∧ (charge n s).pins = s.pins ∧ (charge n s).time = s.time ∧ (charge n s).pending = s.pending
      ∧ (charge n s).pl.store = s.pl.store := by
  simp only [charge]
  split <;> simp

@[simp] theorem applyFilter_frame :
    (applyFilter s).lif = s.lif ∧ (applyFilter s).re = s.re ∧ (applyFilter s).mc = s.mc
      ∧ (applyFilter s).ct = s.ct ∧ (applyFilter s).ev = s.ev ∧ (applyFilter s).mpc = s.mpc
      ∧ (applyFilter s).mu = s.mu ∧ (applyFilter s).cu = s.cu ∧ (applyFilter s).pl = s.pl
      ∧ (applyFilter s).pins = s.pins ∧ (applyFilter s).time = s.time ∧ (applyFilter s).pending = s.pending := by
  simp [applyFilter]

@[simp] theorem enterWindow_frame (x : BitVec 12) :
    (enterWindow x s).lif = s.lif ∧ (enterWindow x s).re = s.re ∧ (enterWindow x s).mc = s.mc
      ∧ (enterWindow x s).ct = s.ct ∧ (enterWindow x s).ev = s.ev ∧ (enterWindow x s).mpc = s.mpc
      ∧ (enterWindow x s).mu = s.mu ∧ (enterWindow x s).cu = s.cu ∧ (enterWindow x s).pl = s.pl
      ∧ (enterWindow x s).pins = s.pins ∧ (enterWindow x s).time = s.time
      ∧ (enterWindow x s).pending = s.pending := by
  simp [enterWindow]

@[simp] theorem sampleEntry_frame (x : BitVec 12) :
    (sampleEntry x s).lif = s.lif ∧ (sampleEntry x s).ct = s.ct ∧ (sampleEntry x s).ev = s.ev
      ∧ (sampleEntry x s).mpc = s.mpc ∧ (sampleEntry x s).mu = s.mu ∧ (sampleEntry x s).cu = s.cu
      ∧ (sampleEntry x s).pins = s.pins ∧ (sampleEntry x s).time = s.time
      ∧ (sampleEntry x s).pending = s.pending ∧ (sampleEntry x s).pl.store = s.pl.store
      ∧ (sampleEntry x s).mc.state = s.mc.state := by
  simp only [sampleEntry]
  split <;> simp

@[simp] theorem missedSample_frame :
    (missedSample s).lif = s.lif ∧ (missedSample s).ct = s.ct ∧ (missedSample s).ev = s.ev
      ∧ (missedSample s).mpc = s.mpc ∧ (missedSample s).mu = s.mu ∧ (missedSample s).cu = s.cu
      ∧ (missedSample s).pins = s.pins ∧ (missedSample s).time = s.time ∧ (missedSample s).pending = s.pending
      ∧ (missedSample s).pl.store = s.pl.store ∧ (missedSample s).mc.state = s.mc.state := by
  simp [missedSample]

@[simp] theorem quietCharge_frame (q : Nat) :
    (quietCharge q s).lif = s.lif ∧ (quietCharge q s).ct = s.ct ∧ (quietCharge q s).ev = s.ev
      ∧ (quietCharge q s).mpc = s.mpc ∧ (quietCharge q s).mu = s.mu ∧ (quietCharge q s).cu = s.cu
      ∧ (quietCharge q s).pins = s.pins ∧ (quietCharge q s).time = s.time
      ∧ (quietCharge q s).pending = s.pending ∧ (quietCharge q s).pl.store = s.pl.store
      ∧ (quietCharge q s).mc.state = s.mc.state := by
  simp only [quietCharge]
  split <;> simp

@[simp] theorem drainRailOn_frame :
    (drainRailOn s).lif = s.lif ∧ (drainRailOn s).re = s.re ∧ (drainRailOn s).mc = s.mc
      ∧ (drainRailOn s).ct = s.ct ∧ (drainRailOn s).ev = s.ev ∧ (drainRailOn s).mpc = s.mpc
      ∧ (drainRailOn s).mu = s.mu ∧ (drainRailOn s).cu = s.cu ∧ (drainRailOn s).pl = s.pl
      ∧ (drainRailOn s).pins = s.pins ∧ (drainRailOn s).time = s.time ∧ (drainRailOn s).pending = s.pending := by
  simp only [drainRailOn]
  split <;> simp

@[simp] theorem drainRailOff_frame :
    (drainRailOff s).lif = s.lif ∧ (drainRailOff s).ct = s.ct ∧ (drainRailOff s).ev = s.ev
      ∧ (drainRailOff s).mpc = s.mpc ∧ (drainRailOff s).mu = s.mu ∧ (drainRailOff s).cu = s.cu
      ∧ (drainRailOff s).pins = s.pins ∧ (drainRailOff s).time = s.time ∧ (drainRailOff s).pending = s.pending
      ∧ (drainRailOff s).pl.store = s.pl.store ∧ (drainRailOff s).mc.state = s.mc.state := by
  simp [drainRailOff]

@[simp] theorem refill_frame :
    (refill s).lif = s.lif ∧ (refill s).ct = s.ct ∧ (refill s).ev = s.ev ∧ (refill s).mpc = s.mpc
      ∧ (refill s).mu = s.mu ∧ (refill s).cu = s.cu ∧ (refill s).pins = s.pins ∧ (refill s).time = s.time
      ∧ (refill s).pending = s.pending ∧ (refill s).pl.store = s.pl.store ∧ (refill s).mc.state = s.mc.state := by
  simp [refill]

end Sys2Proof.Machine
end

