-- ==== Sys2Proof/Laws/FramesMeasurement.lean ====
section
/-! SUPPORT. What each operation of Machine/Measurement.lean leaves alone: one lemma per operation, by parts of the state. -/

namespace Sys2Proof.Machine

variable (s : State)

@[simp] theorem startAttempt_frame :
    (startAttempt s).lif = s.lif ∧ (startAttempt s).re = s.re ∧ (startAttempt s).mc = s.mc
      ∧ (startAttempt s).ct = s.ct ∧ (startAttempt s).ev = s.ev ∧ (startAttempt s).mpc = s.mpc
      ∧ (startAttempt s).da = s.da ∧ (startAttempt s).cu = s.cu ∧ (startAttempt s).pl = s.pl
      ∧ (startAttempt s).pins = s.pins ∧ (startAttempt s).time = s.time ∧ (startAttempt s).pending = s.pending := by
  simp [startAttempt]

@[simp] theorem select_frame :
    (select s).lif = s.lif ∧ (select s).re = s.re ∧ (select s).mc = s.mc ∧ (select s).ct = s.ct
      ∧ (select s).ev = s.ev ∧ (select s).mpc = s.mpc ∧ (select s).da = s.da ∧ (select s).cu = s.cu
      ∧ (select s).pl = s.pl ∧ (select s).pins = s.pins ∧ (select s).time = s.time
      ∧ (select s).pending = s.pending := by
  simp only [select]
  (repeat' split) <;> simp

@[simp] theorem stopIdleClock_frame :
    (stopIdleClock s).lif = s.lif ∧ (stopIdleClock s).re = s.re ∧ (stopIdleClock s).mc = s.mc
      ∧ (stopIdleClock s).ct = s.ct ∧ (stopIdleClock s).ev = s.ev ∧ (stopIdleClock s).mpc = s.mpc
      ∧ (stopIdleClock s).da = s.da ∧ (stopIdleClock s).cu = s.cu ∧ (stopIdleClock s).pl = s.pl
      ∧ (stopIdleClock s).pins = s.pins ∧ (stopIdleClock s).time = s.time
      ∧ (stopIdleClock s).pending = s.pending := by
  simp only [stopIdleClock]
  split <;> simp

@[simp] theorem selectOrStop_frame :
    (selectOrStop s).lif = s.lif ∧ (selectOrStop s).re = s.re ∧ (selectOrStop s).mc = s.mc
      ∧ (selectOrStop s).ct = s.ct ∧ (selectOrStop s).ev = s.ev ∧ (selectOrStop s).mpc = s.mpc
      ∧ (selectOrStop s).da = s.da ∧ (selectOrStop s).cu = s.cu ∧ (selectOrStop s).pl = s.pl
      ∧ (selectOrStop s).pins = s.pins ∧ (selectOrStop s).time = s.time ∧ (selectOrStop s).pending = s.pending := by
  simp [selectOrStop]

@[simp] theorem startOnDemand_frame :
    (startOnDemand s).lif = s.lif ∧ (startOnDemand s).re = s.re ∧ (startOnDemand s).mc = s.mc
      ∧ (startOnDemand s).ct = s.ct ∧ (startOnDemand s).ev = s.ev ∧ (startOnDemand s).mpc = s.mpc
      ∧ (startOnDemand s).da = s.da ∧ (startOnDemand s).cu = s.cu ∧ (startOnDemand s).pl = s.pl
      ∧ (startOnDemand s).pins = s.pins ∧ (startOnDemand s).time = s.time
      ∧ (startOnDemand s).pending = s.pending := by
  simp only [startOnDemand]
  split <;> simp

@[simp] theorem serveRequest_frame :
    (serveRequest s).lif = s.lif ∧ (serveRequest s).re = s.re ∧ (serveRequest s).mc = s.mc
      ∧ (serveRequest s).ct = s.ct ∧ (serveRequest s).ev = s.ev ∧ (serveRequest s).mpc = s.mpc
      ∧ (serveRequest s).da = s.da ∧ (serveRequest s).cu = s.cu ∧ (serveRequest s).pl = s.pl
      ∧ (serveRequest s).pins = s.pins ∧ (serveRequest s).time = s.time ∧ (serveRequest s).pending = s.pending := by
  simp only [serveRequest]
  split <;> simp

@[simp] theorem request_frame (u : User) :
    (request u s).lif = s.lif ∧ (request u s).ct = s.ct ∧ (request u s).ev = s.ev ∧ (request u s).mpc = s.mpc
      ∧ (request u s).cu = s.cu ∧ (request u s).pins = s.pins ∧ (request u s).time = s.time
      ∧ (request u s).pending = s.pending ∧ (request u s).pl.store = s.pl.store
      ∧ (request u s).mc.state = s.mc.state := by
  simp only [request]
  (repeat' split) <;> simp

@[simp] theorem measureRailOn_frame :
    (measureRailOn s).lif = s.lif ∧ (measureRailOn s).re = s.re ∧ (measureRailOn s).mc = s.mc
      ∧ (measureRailOn s).ct = s.ct ∧ (measureRailOn s).ev = s.ev ∧ (measureRailOn s).mpc = s.mpc
      ∧ (measureRailOn s).da = s.da ∧ (measureRailOn s).cu = s.cu ∧ (measureRailOn s).pl = s.pl
      ∧ (measureRailOn s).pins = s.pins ∧ (measureRailOn s).time = s.time
      ∧ (measureRailOn s).pending = s.pending := by
  simp [measureRailOn]

@[simp] theorem measureRailOff_frame :
    (measureRailOff s).lif = s.lif ∧ (measureRailOff s).re = s.re ∧ (measureRailOff s).mc = s.mc
      ∧ (measureRailOff s).ct = s.ct ∧ (measureRailOff s).ev = s.ev ∧ (measureRailOff s).mpc = s.mpc
      ∧ (measureRailOff s).da = s.da ∧ (measureRailOff s).cu = s.cu ∧ (measureRailOff s).pl = s.pl
      ∧ (measureRailOff s).pins = s.pins ∧ (measureRailOff s).time = s.time
      ∧ (measureRailOff s).pending = s.pending := by
  simp [measureRailOff]

@[simp] theorem setClockFault_frame (b : Bool) :
    (setClockFault b s).lif = s.lif ∧ (setClockFault b s).ct = s.ct ∧ (setClockFault b s).ev = s.ev
      ∧ (setClockFault b s).mpc = s.mpc ∧ (setClockFault b s).da = s.da ∧ (setClockFault b s).cu = s.cu
      ∧ (setClockFault b s).pl = s.pl ∧ (setClockFault b s).pins = s.pins ∧ (setClockFault b s).time = s.time
      ∧ (setClockFault b s).pending = s.pending ∧ (setClockFault b s).mc.state = s.mc.state := by
  simp only [setClockFault]
  split <;> simp

@[simp] theorem linkClockFailed_frame :
    (linkClockFailed s).lif = s.lif ∧ (linkClockFailed s).re = s.re ∧ (linkClockFailed s).mc = s.mc
      ∧ (linkClockFailed s).ct = s.ct ∧ (linkClockFailed s).ev = s.ev ∧ (linkClockFailed s).mpc = s.mpc
      ∧ (linkClockFailed s).mu = s.mu ∧ (linkClockFailed s).da = s.da ∧ (linkClockFailed s).cu = s.cu
      ∧ (linkClockFailed s).pins = s.pins ∧ (linkClockFailed s).time = s.time
      ∧ (linkClockFailed s).pending = s.pending ∧ (linkClockFailed s).pl.store = s.pl.store := by
  simp only [linkClockFailed]
  split <;> simp

@[simp] theorem clockFails_frame :
    (clockFails s).lif = s.lif ∧ (clockFails s).ct = s.ct ∧ (clockFails s).ev = s.ev
      ∧ (clockFails s).mpc = s.mpc ∧ (clockFails s).cu = s.cu ∧ (clockFails s).pins = s.pins
      ∧ (clockFails s).time = s.time ∧ (clockFails s).pending = s.pending ∧ (clockFails s).pl.store = s.pl.store
      ∧ (clockFails s).mc.state = s.mc.state := by
  simp only [clockFails]
  split <;> simp

@[simp] theorem batteryOnNetChange_frame (o n : NetState) :
    (batteryOnNetChange o n s).lif = s.lif ∧ (batteryOnNetChange o n s).re = s.re
      ∧ (batteryOnNetChange o n s).mc = s.mc ∧ (batteryOnNetChange o n s).ct = s.ct
      ∧ (batteryOnNetChange o n s).ev = s.ev ∧ (batteryOnNetChange o n s).mpc = s.mpc
      ∧ (batteryOnNetChange o n s).da = s.da ∧ (batteryOnNetChange o n s).cu = s.cu
      ∧ (batteryOnNetChange o n s).pl = s.pl ∧ (batteryOnNetChange o n s).pins = s.pins
      ∧ (batteryOnNetChange o n s).time = s.time ∧ (batteryOnNetChange o n s).pending = s.pending := by
  simp only [batteryOnNetChange]
  split <;> simp

end Sys2Proof.Machine
end

