-- ==== Sys2Proof/Laws/FramesEpisodes.lean ====
section
/-! SUPPORT. What each operation of Machine/Episodes.lean leaves alone: one lemma per operation, by parts of the state. -/

namespace Sys2Proof.Machine

variable (s : State)

@[simp] theorem setTable_frame (t : List Entry) :
    (setTable t s).lif = s.lif ∧ (setTable t s).re = s.re ∧ (setTable t s).mc = s.mc ∧ (setTable t s).ct = s.ct
      ∧ (setTable t s).mpc = s.mpc ∧ (setTable t s).mu = s.mu ∧ (setTable t s).da = s.da
      ∧ (setTable t s).cu = s.cu ∧ (setTable t s).pins = s.pins ∧ (setTable t s).time = s.time
      ∧ (setTable t s).pending = s.pending ∧ (setTable t s).pl.store = s.pl.store := by
  simp only [setTable]
  split <;> simp

@[simp] theorem setAlarm_frame (a : Alarms) :
    (setAlarm a s).lif = s.lif ∧ (setAlarm a s).re = s.re ∧ (setAlarm a s).mc = s.mc ∧ (setAlarm a s).ct = s.ct
      ∧ (setAlarm a s).mpc = s.mpc ∧ (setAlarm a s).mu = s.mu ∧ (setAlarm a s).da = s.da
      ∧ (setAlarm a s).cu = s.cu ∧ (setAlarm a s).pins = s.pins ∧ (setAlarm a s).time = s.time
      ∧ (setAlarm a s).pending = s.pending ∧ (setAlarm a s).pl.store = s.pl.store := by
  simp only [setAlarm]
  split <;> simp

@[simp] theorem setNet_frame (n : NetState) :
    (setNet n s).lif = s.lif ∧ (setNet n s).mc = s.mc ∧ (setNet n s).ct = s.ct ∧ (setNet n s).mpc = s.mpc
      ∧ (setNet n s).da = s.da ∧ (setNet n s).cu = s.cu ∧ (setNet n s).pl = s.pl ∧ (setNet n s).pins = s.pins
      ∧ (setNet n s).time = s.time ∧ (setNet n s).pending = s.pending := by
  simp only [setNet]
  split <;> simp

@[simp] theorem evStatus_frame (v : StatusValues) (d : HoldMap) (o : Option Half) :
    (evStatus v d o s).lif = s.lif ∧ (evStatus v d o s).mc = s.mc ∧ (evStatus v d o s).ct = s.ct
      ∧ (evStatus v d o s).mpc = s.mpc ∧ (evStatus v d o s).da = s.da ∧ (evStatus v d o s).cu = s.cu
      ∧ (evStatus v d o s).pins = s.pins ∧ (evStatus v d o s).time = s.time
      ∧ (evStatus v d o s).pending = s.pending ∧ (evStatus v d o s).pl.store = s.pl.store := by
  simp [evStatus]

@[simp] theorem evRest_frame (h d : HoldMap) (b : Bool) :
    (evRest h d b s).lif = s.lif ∧ (evRest h d b s).mc = s.mc ∧ (evRest h d b s).ct = s.ct
      ∧ (evRest h d b s).mpc = s.mpc ∧ (evRest h d b s).da = s.da ∧ (evRest h d b s).cu = s.cu
      ∧ (evRest h d b s).pins = s.pins ∧ (evRest h d b s).time = s.time ∧ (evRest h d b s).pending = s.pending
      ∧ (evRest h d b s).pl.store = s.pl.store := by
  simp [evRest]

@[simp] theorem evAdmit_frame (h : HoldMap) :
    (evAdmit h s).lif = s.lif ∧ (evAdmit h s).mc = s.mc ∧ (evAdmit h s).ct = s.ct ∧ (evAdmit h s).mpc = s.mpc
      ∧ (evAdmit h s).da = s.da ∧ (evAdmit h s).cu = s.cu ∧ (evAdmit h s).pins = s.pins
      ∧ (evAdmit h s).time = s.time ∧ (evAdmit h s).pending = s.pending ∧ (evAdmit h s).pl.store = s.pl.store := by
  simp [evAdmit]

@[simp] theorem evJoining_frame :
    (evJoining s).lif = s.lif ∧ (evJoining s).re = s.re ∧ (evJoining s).mc = s.mc ∧ (evJoining s).ct = s.ct
      ∧ (evJoining s).mpc = s.mpc ∧ (evJoining s).da = s.da ∧ (evJoining s).cu = s.cu
      ∧ (evJoining s).pins = s.pins ∧ (evJoining s).time = s.time ∧ (evJoining s).pending = s.pending
      ∧ (evJoining s).pl.store = s.pl.store := by
  simp [evJoining]

@[simp] theorem evLocalEntry_frame :
    (evLocalEntry s).lif = s.lif ∧ (evLocalEntry s).re = s.re ∧ (evLocalEntry s).mc = s.mc
      ∧ (evLocalEntry s).ct = s.ct ∧ (evLocalEntry s).mpc = s.mpc ∧ (evLocalEntry s).mu = s.mu
      ∧ (evLocalEntry s).da = s.da ∧ (evLocalEntry s).cu = s.cu ∧ (evLocalEntry s).pins = s.pins
      ∧ (evLocalEntry s).time = s.time ∧ (evLocalEntry s).pending = s.pending
      ∧ (evLocalEntry s).pl.store = s.pl.store := by
  simp [evLocalEntry]

end Sys2Proof.Machine
end

