-- ==== Sys2Proof/Laws/FramesPower.lean ====
section
/-! SUPPORT. What each operation of Machine/Power.lean leaves alone: one lemma per operation, by parts of the state. -/

namespace Sys2Proof.Machine

variable (s : State)

@[simp] theorem railOn_frame :
    (railOn s).lif = s.lif ∧ (railOn s).re = s.re ∧ (railOn s).mc = s.mc ∧ (railOn s).ct = s.ct
      ∧ (railOn s).ev = s.ev ∧ (railOn s).mpc = s.mpc ∧ (railOn s).cu = s.cu ∧ (railOn s).pl = s.pl
      ∧ (railOn s).pins = s.pins ∧ (railOn s).time = s.time ∧ (railOn s).pending = s.pending := by
  simp [railOn]

@[simp] theorem linkRailOff_frame :
    (linkRailOff s).lif = s.lif ∧ (linkRailOff s).re = s.re ∧ (linkRailOff s).mc = s.mc
      ∧ (linkRailOff s).ct = s.ct ∧ (linkRailOff s).ev = s.ev ∧ (linkRailOff s).mpc = s.mpc
      ∧ (linkRailOff s).mu = s.mu ∧ (linkRailOff s).da = s.da ∧ (linkRailOff s).cu = s.cu
      ∧ (linkRailOff s).pins = s.pins ∧ (linkRailOff s).time = s.time ∧ (linkRailOff s).pending = s.pending
      ∧ (linkRailOff s).pl.store = s.pl.store := by
  simp [linkRailOff]

@[simp] theorem railOff_frame :
    (railOff s).lif = s.lif ∧ (railOff s).ct = s.ct ∧ (railOff s).ev = s.ev ∧ (railOff s).mpc = s.mpc
      ∧ (railOff s).cu = s.cu ∧ (railOff s).pins = s.pins ∧ (railOff s).time = s.time
      ∧ (railOff s).pending = s.pending ∧ (railOff s).pl.store = s.pl.store ∧ (railOff s).mc.state = s.mc.state := by
  simp [railOff]

@[simp] theorem enterPowering_frame (n : Need) :
    (enterPowering n s).lif = s.lif ∧ (enterPowering n s).ct = s.ct ∧ (enterPowering n s).ev = s.ev
      ∧ (enterPowering n s).cu = s.cu ∧ (enterPowering n s).pl = s.pl ∧ (enterPowering n s).pins = s.pins
      ∧ (enterPowering n s).time = s.time ∧ (enterPowering n s).pending = s.pending
      ∧ (enterPowering n s).mc.state = s.mc.state := by
  simp [enterPowering]

@[simp] theorem enterParking_frame :
    (enterParking s).lif = s.lif ∧ (enterParking s).ct = s.ct ∧ (enterParking s).ev = s.ev
      ∧ (enterParking s).mu = s.mu ∧ (enterParking s).da = s.da ∧ (enterParking s).cu = s.cu
      ∧ (enterParking s).pins = s.pins ∧ (enterParking s).time = s.time ∧ (enterParking s).pending = s.pending
      ∧ (enterParking s).pl.store = s.pl.store ∧ (enterParking s).mc.state = s.mc.state := by
  simp [enterParking]

@[simp] theorem evaluateOn_frame (n : Need) :
    (evaluateOn n s).lif = s.lif ∧ (evaluateOn n s).ct = s.ct ∧ (evaluateOn n s).ev = s.ev
      ∧ (evaluateOn n s).mu = s.mu ∧ (evaluateOn n s).da = s.da ∧ (evaluateOn n s).cu = s.cu
      ∧ (evaluateOn n s).pins = s.pins ∧ (evaluateOn n s).time = s.time ∧ (evaluateOn n s).pending = s.pending
      ∧ (evaluateOn n s).pl.store = s.pl.store ∧ (evaluateOn n s).mc.state = s.mc.state := by
  simp only [evaluateOn]
  split <;> simp

@[simp] theorem cancelPark_frame (n : Need) :
    (cancelPark n s).lif = s.lif ∧ (cancelPark n s).ct = s.ct ∧ (cancelPark n s).ev = s.ev
      ∧ (cancelPark n s).mu = s.mu ∧ (cancelPark n s).da = s.da ∧ (cancelPark n s).cu = s.cu
      ∧ (cancelPark n s).pins = s.pins ∧ (cancelPark n s).time = s.time ∧ (cancelPark n s).pending = s.pending
      ∧ (cancelPark n s).pl.store = s.pl.store ∧ (cancelPark n s).mc.state = s.mc.state := by
  simp [cancelPark]

@[simp] theorem overrideCut_frame (n : Need) :
    (overrideCut n s).lif = s.lif ∧ (overrideCut n s).ct = s.ct ∧ (overrideCut n s).ev = s.ev
      ∧ (overrideCut n s).cu = s.cu ∧ (overrideCut n s).pl = s.pl ∧ (overrideCut n s).pins = s.pins
      ∧ (overrideCut n s).time = s.time ∧ (overrideCut n s).pending = s.pending
      ∧ (overrideCut n s).mc.state = s.mc.state := by
  simp [overrideCut]

@[simp] theorem recordNeed_frame (n : Need) :
    (recordNeed n s).lif = s.lif ∧ (recordNeed n s).re = s.re ∧ (recordNeed n s).mc = s.mc
      ∧ (recordNeed n s).ct = s.ct ∧ (recordNeed n s).ev = s.ev ∧ (recordNeed n s).mu = s.mu
      ∧ (recordNeed n s).da = s.da ∧ (recordNeed n s).cu = s.cu ∧ (recordNeed n s).pl = s.pl
      ∧ (recordNeed n s).pins = s.pins ∧ (recordNeed n s).time = s.time ∧ (recordNeed n s).pending = s.pending := by
  simp [recordNeed]

@[simp] theorem evaluateNeed_frame :
    (evaluateNeed s).lif = s.lif ∧ (evaluateNeed s).ct = s.ct ∧ (evaluateNeed s).ev = s.ev
      ∧ (evaluateNeed s).cu = s.cu ∧ (evaluateNeed s).pins = s.pins ∧ (evaluateNeed s).time = s.time
      ∧ (evaluateNeed s).pending = s.pending ∧ (evaluateNeed s).pl.store = s.pl.store
      ∧ (evaluateNeed s).mc.state = s.mc.state := by
  simp only [evaluateNeed]
  (repeat' split) <;> simp

@[simp] theorem powerUpDone_frame :
    (powerUpDone s).lif = s.lif ∧ (powerUpDone s).ct = s.ct ∧ (powerUpDone s).ev = s.ev
      ∧ (powerUpDone s).cu = s.cu ∧ (powerUpDone s).pins = s.pins ∧ (powerUpDone s).time = s.time
      ∧ (powerUpDone s).pending = s.pending ∧ (powerUpDone s).pl.store = s.pl.store
      ∧ (powerUpDone s).mc.state = s.mc.state := by
  simp [powerUpDone]

@[simp] theorem parkDone_frame :
    (parkDone s).lif = s.lif ∧ (parkDone s).ct = s.ct ∧ (parkDone s).ev = s.ev ∧ (parkDone s).cu = s.cu
      ∧ (parkDone s).pins = s.pins ∧ (parkDone s).time = s.time ∧ (parkDone s).pending = s.pending
      ∧ (parkDone s).pl.store = s.pl.store ∧ (parkDone s).mc.state = s.mc.state := by
  simp [parkDone]

@[simp] theorem leaveCut_frame :
    (leaveCut s).lif = s.lif ∧ (leaveCut s).ct = s.ct ∧ (leaveCut s).ev = s.ev ∧ (leaveCut s).mu = s.mu
      ∧ (leaveCut s).da = s.da ∧ (leaveCut s).cu = s.cu ∧ (leaveCut s).pl = s.pl ∧ (leaveCut s).pins = s.pins
      ∧ (leaveCut s).time = s.time ∧ (leaveCut s).pending = s.pending ∧ (leaveCut s).mc.state = s.mc.state := by
  simp [leaveCut]

@[simp] theorem restoreModule_frame :
    (restoreModule s).lif = s.lif ∧ (restoreModule s).ct = s.ct ∧ (restoreModule s).ev = s.ev
      ∧ (restoreModule s).cu = s.cu ∧ (restoreModule s).pins = s.pins ∧ (restoreModule s).time = s.time
      ∧ (restoreModule s).pending = s.pending ∧ (restoreModule s).pl.store = s.pl.store
      ∧ (restoreModule s).mc.state = s.mc.state := by
  simp only [restoreModule]
  split <;> simp

@[simp] theorem unfreeze_frame :
    (unfreeze s).lif = s.lif ∧ (unfreeze s).re = s.re ∧ (unfreeze s).mc = s.mc ∧ (unfreeze s).ct = s.ct
      ∧ (unfreeze s).ev = s.ev ∧ (unfreeze s).mu = s.mu ∧ (unfreeze s).da = s.da ∧ (unfreeze s).cu = s.cu
      ∧ (unfreeze s).pl = s.pl ∧ (unfreeze s).pins = s.pins ∧ (unfreeze s).time = s.time
      ∧ (unfreeze s).pending = s.pending := by
  simp [unfreeze]

@[simp] theorem setLoud_frame (n : Nat) :
    (setLoud n s).lif = s.lif ∧ (setLoud n s).ct = s.ct ∧ (setLoud n s).ev = s.ev ∧ (setLoud n s).mu = s.mu
      ∧ (setLoud n s).da = s.da ∧ (setLoud n s).cu = s.cu ∧ (setLoud n s).pl = s.pl
      ∧ (setLoud n s).pins = s.pins ∧ (setLoud n s).time = s.time ∧ (setLoud n s).pending = s.pending
      ∧ (setLoud n s).mc.state = s.mc.state := by
  simp only [setLoud]
  split <;> simp

@[simp] theorem enterCut_frame :
    (enterCut s).lif = s.lif ∧ (enterCut s).ct = s.ct ∧ (enterCut s).ev = s.ev ∧ (enterCut s).mu = s.mu
      ∧ (enterCut s).da = s.da ∧ (enterCut s).cu = s.cu ∧ (enterCut s).pins = s.pins
      ∧ (enterCut s).time = s.time ∧ (enterCut s).pending = s.pending ∧ (enterCut s).pl.store = s.pl.store
      ∧ (enterCut s).mc.state = s.mc.state := by
  simp [enterCut]

@[simp] theorem loudOutcome_frame :
    (loudOutcome s).lif = s.lif ∧ (loudOutcome s).ct = s.ct ∧ (loudOutcome s).ev = s.ev
      ∧ (loudOutcome s).mu = s.mu ∧ (loudOutcome s).da = s.da ∧ (loudOutcome s).cu = s.cu
      ∧ (loudOutcome s).pins = s.pins ∧ (loudOutcome s).time = s.time ∧ (loudOutcome s).pending = s.pending
      ∧ (loudOutcome s).pl.store = s.pl.store ∧ (loudOutcome s).mc.state = s.mc.state := by
  simp only [loudOutcome]
  split <;> simp

@[simp] theorem quietOutcome_frame :
    (quietOutcome s).lif = s.lif ∧ (quietOutcome s).ct = s.ct ∧ (quietOutcome s).ev = s.ev
      ∧ (quietOutcome s).mu = s.mu ∧ (quietOutcome s).da = s.da ∧ (quietOutcome s).cu = s.cu
      ∧ (quietOutcome s).pl = s.pl ∧ (quietOutcome s).pins = s.pins ∧ (quietOutcome s).time = s.time
      ∧ (quietOutcome s).pending = s.pending ∧ (quietOutcome s).mc.state = s.mc.state := by
  simp [quietOutcome]

end Sys2Proof.Machine
end

