-- ==== Sys2Proof/Laws/FramesCauses.lean ====
section
/-! SUPPORT. What each operation of Machine/Causes.lean leaves alone: one lemma per operation, by parts of the state. -/

namespace Sys2Proof.Machine

variable (s : State)

@[simp] theorem setSlot_frame (i : Nat) (c : Cause) :
    (setSlot i c s).lif = s.lif ∧ (setSlot i c s).re = s.re ∧ (setSlot i c s).mc = s.mc
      ∧ (setSlot i c s).ev = s.ev ∧ (setSlot i c s).mpc = s.mpc ∧ (setSlot i c s).mu = s.mu
      ∧ (setSlot i c s).da = s.da ∧ (setSlot i c s).cu = s.cu ∧ (setSlot i c s).pl = s.pl
      ∧ (setSlot i c s).pins = s.pins ∧ (setSlot i c s).time = s.time ∧ (setSlot i c s).pending = s.pending := by
  simp [setSlot]

@[simp] theorem trigger_frame (i : Nat) :
    (trigger i s).lif = s.lif ∧ (trigger i s).ev = s.ev ∧ (trigger i s).mpc = s.mpc ∧ (trigger i s).mu = s.mu
      ∧ (trigger i s).da = s.da ∧ (trigger i s).cu = s.cu ∧ (trigger i s).pl = s.pl
      ∧ (trigger i s).pins = s.pins ∧ (trigger i s).time = s.time ∧ (trigger i s).pending = s.pending
      ∧ (trigger i s).mc.state = s.mc.state := by
  simp only [trigger]
  (repeat' split) <;> simp

@[simp] theorem reportCause_frame (c : Cause) :
    (reportCause c s).lif = s.lif ∧ (reportCause c s).ct = s.ct ∧ (reportCause c s).ev = s.ev
      ∧ (reportCause c s).cu = s.cu ∧ (reportCause c s).pins = s.pins ∧ (reportCause c s).time = s.time
      ∧ (reportCause c s).pending = s.pending ∧ (reportCause c s).pl.store = s.pl.store
      ∧ (reportCause c s).mc.state = s.mc.state := by
  simp only [reportCause]
  split <;> simp

@[simp] theorem followSource_frame (i : Nat) :
    (followSource i s).lif = s.lif ∧ (followSource i s).ev = s.ev ∧ (followSource i s).cu = s.cu
      ∧ (followSource i s).pins = s.pins ∧ (followSource i s).time = s.time
      ∧ (followSource i s).pending = s.pending ∧ (followSource i s).pl.store = s.pl.store
      ∧ (followSource i s).mc.state = s.mc.state := by
  simp only [followSource]
  split <;> simp

@[simp] theorem offerCauses_frame :
    (offerCauses s).lif = s.lif ∧ (offerCauses s).re = s.re ∧ (offerCauses s).mc = s.mc
      ∧ (offerCauses s).ev = s.ev ∧ (offerCauses s).mpc = s.mpc ∧ (offerCauses s).mu = s.mu
      ∧ (offerCauses s).da = s.da ∧ (offerCauses s).cu = s.cu ∧ (offerCauses s).pl = s.pl
      ∧ (offerCauses s).pins = s.pins ∧ (offerCauses s).time = s.time ∧ (offerCauses s).pending = s.pending := by
  simp [offerCauses]

@[simp] theorem acceptOffers_frame (o : Option Half) :
    (acceptOffers o s).lif = s.lif ∧ (acceptOffers o s).re = s.re ∧ (acceptOffers o s).mc = s.mc
      ∧ (acceptOffers o s).ev = s.ev ∧ (acceptOffers o s).mpc = s.mpc ∧ (acceptOffers o s).mu = s.mu
      ∧ (acceptOffers o s).da = s.da ∧ (acceptOffers o s).cu = s.cu ∧ (acceptOffers o s).pl = s.pl
      ∧ (acceptOffers o s).pins = s.pins ∧ (acceptOffers o s).time = s.time
      ∧ (acceptOffers o s).pending = s.pending := by
  simp [acceptOffers]

@[simp] theorem curtail_frame :
    (curtail s).lif = s.lif ∧ (curtail s).ev = s.ev ∧ (curtail s).mpc = s.mpc ∧ (curtail s).mu = s.mu
      ∧ (curtail s).da = s.da ∧ (curtail s).cu = s.cu ∧ (curtail s).pins = s.pins ∧ (curtail s).time = s.time
      ∧ (curtail s).pending = s.pending ∧ (curtail s).pl.store = s.pl.store ∧ (curtail s).mc.state = s.mc.state := by
  simp only [curtail]
  split <;> simp

@[simp] theorem wantAcceptable_frame :
    (wantAcceptable s).lif = s.lif ∧ (wantAcceptable s).ct = s.ct ∧ (wantAcceptable s).ev = s.ev
      ∧ (wantAcceptable s).mpc = s.mpc ∧ (wantAcceptable s).mu = s.mu ∧ (wantAcceptable s).da = s.da
      ∧ (wantAcceptable s).cu = s.cu ∧ (wantAcceptable s).pl = s.pl ∧ (wantAcceptable s).pins = s.pins
      ∧ (wantAcceptable s).time = s.time ∧ (wantAcceptable s).pending = s.pending
      ∧ (wantAcceptable s).mc.state = s.mc.state := by
  simp only [wantAcceptable]
  split <;> simp

@[simp] theorem alarmSlot_frame (b : Alarms) :
    (alarmSlot b s).lif = s.lif ∧ (alarmSlot b s).ev = s.ev ∧ (alarmSlot b s).mpc = s.mpc
      ∧ (alarmSlot b s).mu = s.mu ∧ (alarmSlot b s).da = s.da ∧ (alarmSlot b s).cu = s.cu
      ∧ (alarmSlot b s).pl = s.pl ∧ (alarmSlot b s).pins = s.pins ∧ (alarmSlot b s).time = s.time
      ∧ (alarmSlot b s).pending = s.pending ∧ (alarmSlot b s).mc.state = s.mc.state := by
  simp only [alarmSlot]
  split <;> simp

@[simp] theorem ctStatus_frame (o : Option Half) (b : Alarms) :
    (ctStatus o b s).lif = s.lif ∧ (ctStatus o b s).ev = s.ev ∧ (ctStatus o b s).mpc = s.mpc
      ∧ (ctStatus o b s).mu = s.mu ∧ (ctStatus o b s).da = s.da ∧ (ctStatus o b s).cu = s.cu
      ∧ (ctStatus o b s).pins = s.pins ∧ (ctStatus o b s).time = s.time ∧ (ctStatus o b s).pending = s.pending
      ∧ (ctStatus o b s).pl.store = s.pl.store ∧ (ctStatus o b s).mc.state = s.mc.state := by
  simp [ctStatus]

@[simp] theorem returnOffers_frame :
    (returnOffers s).lif = s.lif ∧ (returnOffers s).re = s.re ∧ (returnOffers s).mc = s.mc
      ∧ (returnOffers s).ev = s.ev ∧ (returnOffers s).mpc = s.mpc ∧ (returnOffers s).mu = s.mu
      ∧ (returnOffers s).da = s.da ∧ (returnOffers s).cu = s.cu ∧ (returnOffers s).pins = s.pins
      ∧ (returnOffers s).time = s.time ∧ (returnOffers s).pending = s.pending
      ∧ (returnOffers s).pl.store = s.pl.store := by
  simp only [returnOffers]
  split <;> simp

@[simp] theorem dropOpened_frame :
    (dropOpened s).lif = s.lif ∧ (dropOpened s).re = s.re ∧ (dropOpened s).mc = s.mc ∧ (dropOpened s).ev = s.ev
      ∧ (dropOpened s).mpc = s.mpc ∧ (dropOpened s).mu = s.mu ∧ (dropOpened s).da = s.da
      ∧ (dropOpened s).cu = s.cu ∧ (dropOpened s).pl = s.pl ∧ (dropOpened s).pins = s.pins
      ∧ (dropOpened s).time = s.time ∧ (dropOpened s).pending = s.pending := by
  simp [dropOpened]

@[simp] theorem ctAdmit_frame (h : HoldMap) :
    (ctAdmit h s).lif = s.lif ∧ (ctAdmit h s).ev = s.ev ∧ (ctAdmit h s).mpc = s.mpc ∧ (ctAdmit h s).mu = s.mu
      ∧ (ctAdmit h s).da = s.da ∧ (ctAdmit h s).cu = s.cu ∧ (ctAdmit h s).pl = s.pl
      ∧ (ctAdmit h s).pins = s.pins ∧ (ctAdmit h s).time = s.time ∧ (ctAdmit h s).pending = s.pending
      ∧ (ctAdmit h s).mc.state = s.mc.state := by
  simp [ctAdmit]

@[simp] theorem loadCauses_frame :
    (loadCauses s).lif = s.lif ∧ (loadCauses s).re = s.re ∧ (loadCauses s).mc = s.mc ∧ (loadCauses s).ev = s.ev
      ∧ (loadCauses s).mpc = s.mpc ∧ (loadCauses s).mu = s.mu ∧ (loadCauses s).da = s.da
      ∧ (loadCauses s).cu = s.cu ∧ (loadCauses s).pl = s.pl ∧ (loadCauses s).pins = s.pins
      ∧ (loadCauses s).time = s.time ∧ (loadCauses s).pending = s.pending := by
  simp [loadCauses]

@[simp] theorem patienceRunsOut_frame (i : Nat) :
    (patienceRunsOut i s).lif = s.lif ∧ (patienceRunsOut i s).re = s.re ∧ (patienceRunsOut i s).mc = s.mc
      ∧ (patienceRunsOut i s).ev = s.ev ∧ (patienceRunsOut i s).mpc = s.mpc ∧ (patienceRunsOut i s).mu = s.mu
      ∧ (patienceRunsOut i s).da = s.da ∧ (patienceRunsOut i s).cu = s.cu ∧ (patienceRunsOut i s).pins = s.pins
      ∧ (patienceRunsOut i s).time = s.time ∧ (patienceRunsOut i s).pending = s.pending
      ∧ (patienceRunsOut i s).pl.store = s.pl.store := by
  simp only [patienceRunsOut]
  (repeat' split) <;> simp

@[simp] theorem lingerRunsOut_frame (i : Nat) :
    (lingerRunsOut i s).lif = s.lif ∧ (lingerRunsOut i s).ev = s.ev ∧ (lingerRunsOut i s).cu = s.cu
      ∧ (lingerRunsOut i s).pins = s.pins ∧ (lingerRunsOut i s).time = s.time
      ∧ (lingerRunsOut i s).pending = s.pending ∧ (lingerRunsOut i s).pl.store = s.pl.store
      ∧ (lingerRunsOut i s).mc.state = s.mc.state := by
  simp only [lingerRunsOut]
  split <;> simp

@[simp] theorem setTimer_frame (i : Nat) (w : WakeTimer) :
    (setTimer i w s).lif = s.lif ∧ (setTimer i w s).re = s.re ∧ (setTimer i w s).mc = s.mc
      ∧ (setTimer i w s).ev = s.ev ∧ (setTimer i w s).mpc = s.mpc ∧ (setTimer i w s).mu = s.mu
      ∧ (setTimer i w s).da = s.da ∧ (setTimer i w s).cu = s.cu ∧ (setTimer i w s).pl = s.pl
      ∧ (setTimer i w s).pins = s.pins ∧ (setTimer i w s).time = s.time ∧ (setTimer i w s).pending = s.pending := by
  simp [setTimer]

@[simp] theorem wakeTimerRunsOut_frame (i : Nat) :
    (wakeTimerRunsOut i s).lif = s.lif ∧ (wakeTimerRunsOut i s).ev = s.ev ∧ (wakeTimerRunsOut i s).mpc = s.mpc
      ∧ (wakeTimerRunsOut i s).mu = s.mu ∧ (wakeTimerRunsOut i s).da = s.da ∧ (wakeTimerRunsOut i s).cu = s.cu
      ∧ (wakeTimerRunsOut i s).pl = s.pl ∧ (wakeTimerRunsOut i s).pins = s.pins
      ∧ (wakeTimerRunsOut i s).time = s.time ∧ (wakeTimerRunsOut i s).pending = s.pending
      ∧ (wakeTimerRunsOut i s).mc.state = s.mc.state := by
  simp only [wakeTimerRunsOut]
  split <;> simp

@[simp] theorem filteredEdge_frame (k : Nat) (b : Bool) :
    (filteredEdge k b s).lif = s.lif ∧ (filteredEdge k b s).ev = s.ev ∧ (filteredEdge k b s).cu = s.cu
      ∧ (filteredEdge k b s).pins = s.pins ∧ (filteredEdge k b s).time = s.time
      ∧ (filteredEdge k b s).pending = s.pending ∧ (filteredEdge k b s).pl.store = s.pl.store
      ∧ (filteredEdge k b s).mc.state = s.mc.state := by
  simp only [filteredEdge]
  (repeat' split) <;> simp

end Sys2Proof.Machine
end

