-- ==== Sys2Proof/Laws/FramesCensus.lean ====
section
/-! SUPPORT. What each operation of Machine/Census.lean leaves alone: one lemma per operation, by parts of the state. -/

namespace Sys2Proof.Machine

variable (s : State)

@[simp] theorem censusRun_frame :
    (censusRun s).lif = s.lif ∧ (censusRun s).mc = s.mc ∧ (censusRun s).ct = s.ct ∧ (censusRun s).ev = s.ev
      ∧ (censusRun s).mpc = s.mpc ∧ (censusRun s).mu = s.mu ∧ (censusRun s).da = s.da ∧ (censusRun s).pl = s.pl
      ∧ (censusRun s).pins = s.pins ∧ (censusRun s).time = s.time ∧ (censusRun s).pending = s.pending := by
  simp [censusRun]

@[simp] theorem censusRecheck_frame :
    (censusRecheck s).lif = s.lif ∧ (censusRecheck s).mc = s.mc ∧ (censusRecheck s).ct = s.ct
      ∧ (censusRecheck s).ev = s.ev ∧ (censusRecheck s).mpc = s.mpc ∧ (censusRecheck s).mu = s.mu
      ∧ (censusRecheck s).da = s.da ∧ (censusRecheck s).pl = s.pl ∧ (censusRecheck s).pins = s.pins
      ∧ (censusRecheck s).time = s.time ∧ (censusRecheck s).pending = s.pending := by
  simp only [censusRecheck]
  split <;> simp

@[simp] theorem censusStep_frame (l : Level) (c : Station) :
    (censusStep l c s).lif = s.lif ∧ (censusStep l c s).mc = s.mc ∧ (censusStep l c s).ct = s.ct
      ∧ (censusStep l c s).ev = s.ev ∧ (censusStep l c s).mpc = s.mpc ∧ (censusStep l c s).mu = s.mu
      ∧ (censusStep l c s).da = s.da ∧ (censusStep l c s).pins = s.pins ∧ (censusStep l c s).time = s.time
      ∧ (censusStep l c s).pending = s.pending ∧ (censusStep l c s).pl.store = s.pl.store := by
  simp only [censusStep]
  (repeat' split) <;> simp

@[simp] theorem censusYield_frame (l : Level) (c : Station) :
    (censusYield l c s).lif = s.lif ∧ (censusYield l c s).mc = s.mc ∧ (censusYield l c s).ct = s.ct
      ∧ (censusYield l c s).ev = s.ev ∧ (censusYield l c s).mpc = s.mpc ∧ (censusYield l c s).mu = s.mu
      ∧ (censusYield l c s).da = s.da ∧ (censusYield l c s).pl = s.pl ∧ (censusYield l c s).pins = s.pins
      ∧ (censusYield l c s).time = s.time ∧ (censusYield l c s).pending = s.pending := by
  simp only [censusYield]
  (repeat' split) <;> simp

@[simp] theorem cuCensus_frame (w : Bool) (q : Station) (l : Level) (c : Station) :
    (cuCensus w q l c s).lif = s.lif ∧ (cuCensus w q l c s).mc = s.mc ∧ (cuCensus w q l c s).ct = s.ct
      ∧ (cuCensus w q l c s).ev = s.ev ∧ (cuCensus w q l c s).mpc = s.mpc ∧ (cuCensus w q l c s).mu = s.mu
      ∧ (cuCensus w q l c s).da = s.da ∧ (cuCensus w q l c s).pins = s.pins ∧ (cuCensus w q l c s).time = s.time
      ∧ (cuCensus w q l c s).pending = s.pending ∧ (cuCensus w q l c s).pl.store = s.pl.store := by
  simp only [cuCensus]
  split <;> simp

@[simp] theorem cuStatus_frame (h : HoldMap) :
    (cuStatus h s).lif = s.lif ∧ (cuStatus h s).re = s.re ∧ (cuStatus h s).mc = s.mc ∧ (cuStatus h s).ct = s.ct
      ∧ (cuStatus h s).ev = s.ev ∧ (cuStatus h s).mpc = s.mpc ∧ (cuStatus h s).mu = s.mu
      ∧ (cuStatus h s).da = s.da ∧ (cuStatus h s).pl = s.pl ∧ (cuStatus h s).pins = s.pins
      ∧ (cuStatus h s).time = s.time ∧ (cuStatus h s).pending = s.pending := by
  simp only [cuStatus]
  split <;> simp

@[simp] theorem cuLeaveMember_frame :
    (cuLeaveMember s).lif = s.lif ∧ (cuLeaveMember s).re = s.re ∧ (cuLeaveMember s).mc = s.mc
      ∧ (cuLeaveMember s).ct = s.ct ∧ (cuLeaveMember s).ev = s.ev ∧ (cuLeaveMember s).mpc = s.mpc
      ∧ (cuLeaveMember s).mu = s.mu ∧ (cuLeaveMember s).da = s.da ∧ (cuLeaveMember s).pl = s.pl
      ∧ (cuLeaveMember s).pins = s.pins ∧ (cuLeaveMember s).time = s.time
      ∧ (cuLeaveMember s).pending = s.pending := by
  simp only [cuLeaveMember]
  split <;> simp

@[simp] theorem exclusionRunsOut_frame :
    (exclusionRunsOut s).lif = s.lif ∧ (exclusionRunsOut s).mc = s.mc ∧ (exclusionRunsOut s).ct = s.ct
      ∧ (exclusionRunsOut s).ev = s.ev ∧ (exclusionRunsOut s).mpc = s.mpc ∧ (exclusionRunsOut s).mu = s.mu
      ∧ (exclusionRunsOut s).da = s.da ∧ (exclusionRunsOut s).pl = s.pl ∧ (exclusionRunsOut s).pins = s.pins
      ∧ (exclusionRunsOut s).time = s.time ∧ (exclusionRunsOut s).pending = s.pending := by
  simp only [exclusionRunsOut]
  split <;> simp

@[simp] theorem holdOffRunsOut_frame :
    (holdOffRunsOut s).lif = s.lif ∧ (holdOffRunsOut s).mc = s.mc ∧ (holdOffRunsOut s).ct = s.ct
      ∧ (holdOffRunsOut s).ev = s.ev ∧ (holdOffRunsOut s).mpc = s.mpc ∧ (holdOffRunsOut s).mu = s.mu
      ∧ (holdOffRunsOut s).da = s.da ∧ (holdOffRunsOut s).pl = s.pl ∧ (holdOffRunsOut s).pins = s.pins
      ∧ (holdOffRunsOut s).time = s.time ∧ (holdOffRunsOut s).pending = s.pending := by
  simp only [holdOffRunsOut]
  split <;> simp

end Sys2Proof.Machine
end

