-- ==== Sys2Proof/Laws/FramesMembership.lean ====
section
/-! SUPPORT. What each operation of Machine/Membership.lean leaves alone: one lemma per operation, by parts of the state. -/

namespace Sys2Proof.Machine

variable (s : State)

@[simp] theorem mpcStatus_frame (b : Bool) :
    (mpcStatus b s).lif = s.lif ∧ (mpcStatus b s).ct = s.ct ∧ (mpcStatus b s).ev = s.ev
      ∧ (mpcStatus b s).cu = s.cu ∧ (mpcStatus b s).pins = s.pins ∧ (mpcStatus b s).time = s.time
      ∧ (mpcStatus b s).pending = s.pending ∧ (mpcStatus b s).pl.store = s.pl.store
      ∧ (mpcStatus b s).mc.state = s.mc.state := by
  simp only [mpcStatus]
  split <;> simp

@[simp] theorem localStatus_frame :
    (localStatus s).lif = s.lif ∧ (localStatus s).cu = s.cu ∧ (localStatus s).pins = s.pins
      ∧ (localStatus s).time = s.time ∧ (localStatus s).pending = s.pending
      ∧ (localStatus s).pl.store = s.pl.store ∧ (localStatus s).mc.state = s.mc.state := by
  simp only [localStatus]
  split <;> simp

@[simp] theorem localRest_frame :
    (localRest s).lif = s.lif ∧ (localRest s).ct = s.ct ∧ (localRest s).cu = s.cu ∧ (localRest s).pins = s.pins
      ∧ (localRest s).time = s.time ∧ (localRest s).pending = s.pending ∧ (localRest s).pl.store = s.pl.store
      ∧ (localRest s).mc.state = s.mc.state := by
  simp [localRest]

@[simp] theorem takeDueDecisions_frame :
    (takeDueDecisions s).lif = s.lif ∧ (takeDueDecisions s).cu = s.cu ∧ (takeDueDecisions s).pins = s.pins
      ∧ (takeDueDecisions s).time = s.time ∧ (takeDueDecisions s).pending = s.pending
      ∧ (takeDueDecisions s).pl.store = s.pl.store ∧ (takeDueDecisions s).mc.state = s.mc.state := by
  simp only [takeDueDecisions]
  (repeat' split) <;> simp

@[simp] theorem enterLocal_frame :
    (enterLocal s).lif = s.lif ∧ (enterLocal s).cu = s.cu ∧ (enterLocal s).pins = s.pins
      ∧ (enterLocal s).time = s.time ∧ (enterLocal s).pending = s.pending ∧ (enterLocal s).pl.store = s.pl.store
      ∧ (enterLocal s).mc.state = s.mc.state := by
  simp only [enterLocal]
  split <;> simp

@[simp] theorem memberToDegraded_frame (f : LineFault) :
    (memberToDegraded f s).lif = s.lif ∧ (memberToDegraded f s).pins = s.pins
      ∧ (memberToDegraded f s).time = s.time ∧ (memberToDegraded f s).pending = s.pending
      ∧ (memberToDegraded f s).pl.store = s.pl.store := by
  simp [memberToDegraded]

@[simp] theorem joiningToDegraded_frame (f : LineFault) :
    (joiningToDegraded f s).lif = s.lif ∧ (joiningToDegraded f s).cu = s.cu
      ∧ (joiningToDegraded f s).pins = s.pins ∧ (joiningToDegraded f s).time = s.time
      ∧ (joiningToDegraded f s).pending = s.pending ∧ (joiningToDegraded f s).pl.store = s.pl.store := by
  simp [joiningToDegraded]

@[simp] theorem degradedFault_frame (f : LineFault) :
    (degradedFault f s).lif = s.lif ∧ (degradedFault f s).ct = s.ct ∧ (degradedFault f s).ev = s.ev
      ∧ (degradedFault f s).mpc = s.mpc ∧ (degradedFault f s).mu = s.mu ∧ (degradedFault f s).da = s.da
      ∧ (degradedFault f s).cu = s.cu ∧ (degradedFault f s).pins = s.pins ∧ (degradedFault f s).time = s.time
      ∧ (degradedFault f s).pending = s.pending ∧ (degradedFault f s).pl.store = s.pl.store
      ∧ (degradedFault f s).mc.state = s.mc.state := by
  simp [degradedFault]

@[simp] theorem reportFault_frame (f : LineFault) :
    (reportFault f s).lif = s.lif ∧ (reportFault f s).pins = s.pins ∧ (reportFault f s).time = s.time
      ∧ (reportFault f s).pending = s.pending ∧ (reportFault f s).pl.store = s.pl.store := by
  simp only [reportFault]
  (repeat' split) <;> simp

@[simp] theorem enterJoining_frame :
    (enterJoining s).ct = s.ct ∧ (enterJoining s).da = s.da ∧ (enterJoining s).cu = s.cu
      ∧ (enterJoining s).pins = s.pins ∧ (enterJoining s).time = s.time ∧ (enterJoining s).pending = s.pending
      ∧ (enterJoining s).pl.store = s.pl.store := by
  simp only [enterJoining]
  split <;> simp

@[simp] theorem setDisagreement_frame (b : Bool) :
    (setDisagreement b s).lif = s.lif ∧ (setDisagreement b s).ct = s.ct ∧ (setDisagreement b s).ev = s.ev
      ∧ (setDisagreement b s).mpc = s.mpc ∧ (setDisagreement b s).mu = s.mu ∧ (setDisagreement b s).da = s.da
      ∧ (setDisagreement b s).cu = s.cu ∧ (setDisagreement b s).pl = s.pl ∧ (setDisagreement b s).pins = s.pins
      ∧ (setDisagreement b s).time = s.time ∧ (setDisagreement b s).pending = s.pending
      ∧ (setDisagreement b s).mc.state = s.mc.state := by
  simp only [setDisagreement]
  split <;> simp

@[simp] theorem joinAtMember_frame (a b c : Half) :
    (joinAtMember a b c s).lif = s.lif ∧ (joinAtMember a b c s).ct = s.ct ∧ (joinAtMember a b c s).ev = s.ev
      ∧ (joinAtMember a b c s).mpc = s.mpc ∧ (joinAtMember a b c s).mu = s.mu ∧ (joinAtMember a b c s).da = s.da
      ∧ (joinAtMember a b c s).cu = s.cu ∧ (joinAtMember a b c s).pl = s.pl
      ∧ (joinAtMember a b c s).pins = s.pins ∧ (joinAtMember a b c s).time = s.time
      ∧ (joinAtMember a b c s).pending = s.pending ∧ (joinAtMember a b c s).mc.state = s.mc.state := by
  simp [joinAtMember]

@[simp] theorem admit_frame (a : Half) (h : HoldMap) :
    (admitStation a h s).lif = s.lif ∧ (admitStation a h s).pins = s.pins ∧ (admitStation a h s).time = s.time
      ∧ (admitStation a h s).pending = s.pending ∧ (admitStation a h s).pl.store = s.pl.store := by
  simp [admitStation]

@[simp] theorem refuse_frame (f : LineFault) (b : Bool) :
    (refuse f b s).cu = s.cu ∧ (refuse f b s).pins = s.pins ∧ (refuse f b s).time = s.time
      ∧ (refuse f b s).pending = s.pending ∧ (refuse f b s).pl.store = s.pl.store := by
  simp only [refuse]
  split <;> simp

@[simp] theorem judgeJoin_frame (q : Bool) (a b c : Half) (h : HoldMap) :
    (judgeJoin q a b c h s).pins = s.pins ∧ (judgeJoin q a b c h s).time = s.time
      ∧ (judgeJoin q a b c h s).pending = s.pending ∧ (judgeJoin q a b c h s).pl.store = s.pl.store := by
  simp only [judgeJoin]
  (repeat' split) <;> simp

@[simp] theorem rejoinRunsOut_frame :
    (rejoinRunsOut s).lif = s.lif ∧ (rejoinRunsOut s).ct = s.ct ∧ (rejoinRunsOut s).ev = s.ev
      ∧ (rejoinRunsOut s).mpc = s.mpc ∧ (rejoinRunsOut s).mu = s.mu ∧ (rejoinRunsOut s).da = s.da
      ∧ (rejoinRunsOut s).cu = s.cu ∧ (rejoinRunsOut s).pl = s.pl ∧ (rejoinRunsOut s).pins = s.pins
      ∧ (rejoinRunsOut s).time = s.time ∧ (rejoinRunsOut s).pending = s.pending
      ∧ (rejoinRunsOut s).mc.state = s.mc.state := by
  simp only [rejoinRunsOut]
  split <;> simp

@[simp] theorem heartbeatRunsOut_frame :
    (heartbeatRunsOut s).lif = s.lif ∧ (heartbeatRunsOut s).ct = s.ct ∧ (heartbeatRunsOut s).mpc = s.mpc
      ∧ (heartbeatRunsOut s).mu = s.mu ∧ (heartbeatRunsOut s).da = s.da ∧ (heartbeatRunsOut s).cu = s.cu
      ∧ (heartbeatRunsOut s).pl = s.pl ∧ (heartbeatRunsOut s).pins = s.pins ∧ (heartbeatRunsOut s).time = s.time
      ∧ (heartbeatRunsOut s).pending = s.pending ∧ (heartbeatRunsOut s).mc.state = s.mc.state := by
  simp only [heartbeatRunsOut]
  split <;> simp

@[simp] theorem settleRunsOut_frame :
    (settleRunsOut s).lif = s.lif ∧ (settleRunsOut s).ct = s.ct ∧ (settleRunsOut s).cu = s.cu
      ∧ (settleRunsOut s).pins = s.pins ∧ (settleRunsOut s).time = s.time
      ∧ (settleRunsOut s).pending = s.pending ∧ (settleRunsOut s).pl.store = s.pl.store
      ∧ (settleRunsOut s).mc.state = s.mc.state := by
  simp only [settleRunsOut]
  (repeat' split) <;> simp

end Sys2Proof.Machine
end

