-- ==== Sys2Proof/Laws/FramesRounds.lean ====
section
/-! SUPPORT. What each operation of Machine/Rounds.lean leaves alone: one lemma per operation, by parts of the state. -/

namespace Sys2Proof.Machine

variable (s : State)

@[simp] theorem setRecord_frame (r : Option RoundRecord) :
    (setRecord r s).lif = s.lif ∧ (setRecord r s).mc = s.mc ∧ (setRecord r s).ct = s.ct
      ∧ (setRecord r s).ev = s.ev ∧ (setRecord r s).mpc = s.mpc ∧ (setRecord r s).mu = s.mu
      ∧ (setRecord r s).da = s.da ∧ (setRecord r s).cu = s.cu ∧ (setRecord r s).pl = s.pl
      ∧ (setRecord r s).pins = s.pins ∧ (setRecord r s).time = s.time ∧ (setRecord r s).pending = s.pending := by
  simp [setRecord]

@[simp] theorem openRecord_frame :
    (openRecord s).lif = s.lif ∧ (openRecord s).mc = s.mc ∧ (openRecord s).ct = s.ct ∧ (openRecord s).ev = s.ev
      ∧ (openRecord s).mpc = s.mpc ∧ (openRecord s).mu = s.mu ∧ (openRecord s).da = s.da
      ∧ (openRecord s).cu = s.cu ∧ (openRecord s).pl = s.pl ∧ (openRecord s).pins = s.pins
      ∧ (openRecord s).time = s.time ∧ (openRecord s).pending = s.pending := by
  simp only [openRecord]
  split <;> simp

@[simp] theorem segBegin_frame (r : RoundRecord) :
    (segBegin r s).lif = s.lif ∧ (segBegin r s).mc = s.mc ∧ (segBegin r s).ev = s.ev
      ∧ (segBegin r s).mpc = s.mpc ∧ (segBegin r s).mu = s.mu ∧ (segBegin r s).da = s.da
      ∧ (segBegin r s).cu = s.cu ∧ (segBegin r s).pl = s.pl ∧ (segBegin r s).pins = s.pins
      ∧ (segBegin r s).time = s.time ∧ (segBegin r s).pending = s.pending := by
  simp only [segBegin]
  split <;> simp

@[simp] theorem bitBegin_frame :
    (bitBegin s).mc = s.mc ∧ (bitBegin s).ev = s.ev ∧ (bitBegin s).mpc = s.mpc ∧ (bitBegin s).mu = s.mu
      ∧ (bitBegin s).da = s.da ∧ (bitBegin s).cu = s.cu ∧ (bitBegin s).pl = s.pl ∧ (bitBegin s).pins = s.pins
      ∧ (bitBegin s).time = s.time ∧ (bitBegin s).pending = s.pending := by
  simp only [bitBegin]
  (repeat' split) <;> simp

@[simp] theorem abandonRound_frame :
    (abandonRound s).lif = s.lif ∧ (abandonRound s).mc = s.mc ∧ (abandonRound s).ct = s.ct
      ∧ (abandonRound s).ev = s.ev ∧ (abandonRound s).mpc = s.mpc ∧ (abandonRound s).mu = s.mu
      ∧ (abandonRound s).da = s.da ∧ (abandonRound s).cu = s.cu ∧ (abandonRound s).pl = s.pl
      ∧ (abandonRound s).pins = s.pins ∧ (abandonRound s).time = s.time ∧ (abandonRound s).pending = s.pending := by
  simp [abandonRound]

@[simp] theorem lostSync_frame :
    (lostSync s).pins = s.pins ∧ (lostSync s).time = s.time ∧ (lostSync s).pending = s.pending
      ∧ (lostSync s).pl.store = s.pl.store := by
  simp [lostSync]

@[simp] theorem driveFault_frame :
    (driveFault s).pins = s.pins ∧ (driveFault s).time = s.time ∧ (driveFault s).pending = s.pending
      ∧ (driveFault s).pl.store = s.pl.store := by
  simp [driveFault]

@[simp] theorem stuckLineFound_frame :
    (stuckLineFound s).pins = s.pins ∧ (stuckLineFound s).time = s.time ∧ (stuckLineFound s).pending = s.pending
      ∧ (stuckLineFound s).pl.store = s.pl.store := by
  simp only [stuckLineFound]
  split <;> simp

@[simp] theorem bitSample_frame (x : Bool) :
    (bitSample x s).pins = s.pins ∧ (bitSample x s).time = s.time ∧ (bitSample x s).pending = s.pending
      ∧ (bitSample x s).pl.store = s.pl.store := by
  simp only [bitSample]
  (repeat' split) <;> simp

@[simp] theorem advanceCounter_frame :
    (advanceCounter s).lif = s.lif ∧ (advanceCounter s).re = s.re ∧ (advanceCounter s).ct = s.ct
      ∧ (advanceCounter s).ev = s.ev ∧ (advanceCounter s).mpc = s.mpc ∧ (advanceCounter s).mu = s.mu
      ∧ (advanceCounter s).da = s.da ∧ (advanceCounter s).cu = s.cu ∧ (advanceCounter s).pl = s.pl
      ∧ (advanceCounter s).pins = s.pins ∧ (advanceCounter s).time = s.time
      ∧ (advanceCounter s).pending = s.pending ∧ (advanceCounter s).mc.state = s.mc.state := by
  simp [advanceCounter]

@[simp] theorem noticesCarried_frame (r : RoundRecord) :
    (noticesCarried r s).lif = s.lif ∧ (noticesCarried r s).re = s.re ∧ (noticesCarried r s).mc = s.mc
      ∧ (noticesCarried r s).ct = s.ct ∧ (noticesCarried r s).ev = s.ev ∧ (noticesCarried r s).mpc = s.mpc
      ∧ (noticesCarried r s).mu = s.mu ∧ (noticesCarried r s).da = s.da ∧ (noticesCarried r s).cu = s.cu
      ∧ (noticesCarried r s).pins = s.pins ∧ (noticesCarried r s).time = s.time
      ∧ (noticesCarried r s).pending = s.pending ∧ (noticesCarried r s).pl.store = s.pl.store := by
  simp [noticesCarried]

@[simp] theorem commitStatus_frame (r : RoundRecord) :
    (commitStatus r s).lif = s.lif ∧ (commitStatus r s).pins = s.pins ∧ (commitStatus r s).time = s.time
      ∧ (commitStatus r s).pending = s.pending ∧ (commitStatus r s).pl.store = s.pl.store
      ∧ (commitStatus r s).mc.state = s.mc.state := by
  simp only [commitStatus]
  split <;> simp

@[simp] theorem commitRest_frame (r : RoundRecord) :
    (commitRest r s).lif = s.lif ∧ (commitRest r s).ct = s.ct ∧ (commitRest r s).cu = s.cu
      ∧ (commitRest r s).pins = s.pins ∧ (commitRest r s).time = s.time ∧ (commitRest r s).pending = s.pending
      ∧ (commitRest r s).pl.store = s.pl.store ∧ (commitRest r s).mc.state = s.mc.state := by
  simp [commitRest]

@[simp] theorem commitCensus_frame (r : RoundRecord) :
    (commitCensus r s).lif = s.lif ∧ (commitCensus r s).ct = s.ct ∧ (commitCensus r s).ev = s.ev
      ∧ (commitCensus r s).mpc = s.mpc ∧ (commitCensus r s).mu = s.mu ∧ (commitCensus r s).da = s.da
      ∧ (commitCensus r s).pins = s.pins ∧ (commitCensus r s).time = s.time
      ∧ (commitCensus r s).pending = s.pending ∧ (commitCensus r s).pl.store = s.pl.store
      ∧ (commitCensus r s).mc.state = s.mc.state := by
  simp only [commitCensus]
  split <;> simp

@[simp] theorem commitJoin_frame (r : RoundRecord) :
    (commitJoin r s).pins = s.pins ∧ (commitJoin r s).time = s.time ∧ (commitJoin r s).pending = s.pending
      ∧ (commitJoin r s).pl.store = s.pl.store := by
  simp only [commitJoin]
  split <;> simp

@[simp] theorem commitRound_frame (r : RoundRecord) :
    (commitRound r s).pins = s.pins ∧ (commitRound r s).time = s.time ∧ (commitRound r s).pending = s.pending
      ∧ (commitRound r s).pl.store = s.pl.store := by
  simp only [commitRound]
  split <;> simp

@[simp] theorem voidRound_frame :
    (voidRound s).lif = s.lif ∧ (voidRound s).pins = s.pins ∧ (voidRound s).time = s.time
      ∧ (voidRound s).pending = s.pending ∧ (voidRound s).pl.store = s.pl.store := by
  simp only [voidRound]
  split <;> simp

@[simp] theorem closeRound_frame :
    (closeRound s).mc = s.mc ∧ (closeRound s).ct = s.ct ∧ (closeRound s).ev = s.ev
      ∧ (closeRound s).mpc = s.mpc ∧ (closeRound s).mu = s.mu ∧ (closeRound s).da = s.da
      ∧ (closeRound s).cu = s.cu ∧ (closeRound s).pl = s.pl ∧ (closeRound s).pins = s.pins
      ∧ (closeRound s).time = s.time ∧ (closeRound s).pending = s.pending := by
  simp only [closeRound]
  split <;> simp

@[simp] theorem endOfVoid_frame (r : RoundRecord) :
    (endOfVoid r s).pins = s.pins ∧ (endOfVoid r s).time = s.time ∧ (endOfVoid r s).pending = s.pending
      ∧ (endOfVoid r s).pl.store = s.pl.store := by
  simp only [endOfVoid]
  (repeat' split) <;> simp

@[simp] theorem standAside_frame :
    (standAside s).mc = s.mc ∧ (standAside s).ct = s.ct ∧ (standAside s).ev = s.ev ∧ (standAside s).mpc = s.mpc
      ∧ (standAside s).mu = s.mu ∧ (standAside s).da = s.da ∧ (standAside s).cu = s.cu
      ∧ (standAside s).pl = s.pl ∧ (standAside s).pins = s.pins ∧ (standAside s).time = s.time
      ∧ (standAside s).pending = s.pending := by
  simp [standAside]

@[simp] theorem bitEnd_frame :
    (bitEnd s).pins = s.pins ∧ (bitEnd s).time = s.time ∧ (bitEnd s).pending = s.pending
      ∧ (bitEnd s).pl.store = s.pl.store := by
  simp only [bitEnd]
  (repeat' split) <;> simp

@[simp] theorem watchBit_frame (x : Bool) (n : Nat) :
    (watchBit x n s).pins = s.pins ∧ (watchBit x n s).time = s.time ∧ (watchBit x n s).pending = s.pending
      ∧ (watchBit x n s).pl.store = s.pl.store := by
  simp only [watchBit]
  (repeat' split) <;> simp

@[simp] theorem finishBit_frame (x : Bool) :
    (finishBit x s).pins = s.pins ∧ (finishBit x s).time = s.time ∧ (finishBit x s).pending = s.pending
      ∧ (finishBit x s).pl.store = s.pl.store := by
  simp only [finishBit]
  (repeat' split) <;> simp

@[simp] theorem runBit_frame (x : Bool) :
    (runBit x s).pins = s.pins ∧ (runBit x s).time = s.time ∧ (runBit x s).pending = s.pending
      ∧ (runBit x s).pl.store = s.pl.store := by
  simp only [runBit]
  (repeat' split) <;> simp

@[simp] theorem releaseEdge_frame (n : Nat) :
    (releaseEdge n s).pins = s.pins ∧ (releaseEdge n s).time = s.time ∧ (releaseEdge n s).pending = s.pending
      ∧ (releaseEdge n s).pl.store = s.pl.store := by
  simp only [releaseEdge]
  split <;> simp

@[simp] theorem pulseDriveFault_frame :
    (pulseDriveFault s).pins = s.pins ∧ (pulseDriveFault s).time = s.time
      ∧ (pulseDriveFault s).pending = s.pending ∧ (pulseDriveFault s).pl.store = s.pl.store := by
  simp [pulseDriveFault]

@[simp] theorem glitchEnds_frame :
    (glitchEnds s).mc = s.mc ∧ (glitchEnds s).ct = s.ct ∧ (glitchEnds s).ev = s.ev ∧ (glitchEnds s).mpc = s.mpc
      ∧ (glitchEnds s).mu = s.mu ∧ (glitchEnds s).da = s.da ∧ (glitchEnds s).cu = s.cu
      ∧ (glitchEnds s).pl = s.pl ∧ (glitchEnds s).pins = s.pins ∧ (glitchEnds s).time = s.time
      ∧ (glitchEnds s).pending = s.pending := by
  simp [glitchEnds]

@[simp] theorem pulseEnds_frame (n : Nat) :
    (pulseEnds n s).pins = s.pins ∧ (pulseEnds n s).time = s.time ∧ (pulseEnds n s).pending = s.pending
      ∧ (pulseEnds n s).pl.store = s.pl.store := by
  simp only [pulseEnds]
  (repeat' split) <;> simp

end Sys2Proof.Machine
end

