-- ==== Sys2Proof/Laws/FramesLine.lean ====
section
/-! SUPPORT. What each operation of Machine/Line.lean leaves alone: one lemma per operation, by parts of the state. -/

namespace Sys2Proof.Machine

variable (s : State)

@[simp] theorem setWakePeers_frame (b : Bool) :
    (setWakePeers b s).lif = s.lif ∧ (setWakePeers b s).re = s.re ∧ (setWakePeers b s).mc = s.mc
      ∧ (setWakePeers b s).ct = s.ct ∧ (setWakePeers b s).ev = s.ev ∧ (setWakePeers b s).mpc = s.mpc
      ∧ (setWakePeers b s).mu = s.mu ∧ (setWakePeers b s).da = s.da ∧ (setWakePeers b s).cu = s.cu
      ∧ (setWakePeers b s).pl = s.pl ∧ (setWakePeers b s).time = s.time ∧ (setWakePeers b s).pending = s.pending := by
  simp [setWakePeers]

@[simp] theorem seekingEnds_frame :
    (seekingEnds s).re = s.re ∧ (seekingEnds s).mc = s.mc ∧ (seekingEnds s).ct = s.ct
      ∧ (seekingEnds s).ev = s.ev ∧ (seekingEnds s).mpc = s.mpc ∧ (seekingEnds s).mu = s.mu
      ∧ (seekingEnds s).da = s.da ∧ (seekingEnds s).cu = s.cu ∧ (seekingEnds s).pl = s.pl
      ∧ (seekingEnds s).pins = s.pins ∧ (seekingEnds s).time = s.time ∧ (seekingEnds s).pending = s.pending := by
  simp [seekingEnds]

@[simp] theorem pulseBegins_frame (t : RoundType) :
    (pulseBegins t s).mc = s.mc ∧ (pulseBegins t s).ct = s.ct ∧ (pulseBegins t s).ev = s.ev
      ∧ (pulseBegins t s).mpc = s.mpc ∧ (pulseBegins t s).mu = s.mu ∧ (pulseBegins t s).da = s.da
      ∧ (pulseBegins t s).cu = s.cu ∧ (pulseBegins t s).pl = s.pl ∧ (pulseBegins t s).pins = s.pins
      ∧ (pulseBegins t s).time = s.time ∧ (pulseBegins t s).pending = s.pending := by
  simp [pulseBegins]

@[simp] theorem startRequest_frame (f : Option (Fin 6)) :
    (startRequest f s).pins = s.pins ∧ (startRequest f s).time = s.time ∧ (startRequest f s).pending = s.pending
      ∧ (startRequest f s).pl.store = s.pl.store := by
  simp only [startRequest]
  (repeat' split) <;> simp

@[simp] theorem receiverPulse_frame (run : Nat) :
    (receiverPulse run s).re = s.re ∧ (receiverPulse run s).mc = s.mc ∧ (receiverPulse run s).ct = s.ct
      ∧ (receiverPulse run s).ev = s.ev ∧ (receiverPulse run s).mpc = s.mpc ∧ (receiverPulse run s).mu = s.mu
      ∧ (receiverPulse run s).da = s.da ∧ (receiverPulse run s).cu = s.cu ∧ (receiverPulse run s).pl = s.pl
      ∧ (receiverPulse run s).pins = s.pins ∧ (receiverPulse run s).time = s.time
      ∧ (receiverPulse run s).pending = s.pending := by
  simp [receiverPulse]

@[simp] theorem startIsAccepted_frame :
    (startIsAccepted s).mc = s.mc ∧ (startIsAccepted s).ct = s.ct ∧ (startIsAccepted s).ev = s.ev
      ∧ (startIsAccepted s).mpc = s.mpc ∧ (startIsAccepted s).mu = s.mu ∧ (startIsAccepted s).da = s.da
      ∧ (startIsAccepted s).cu = s.cu ∧ (startIsAccepted s).pl = s.pl ∧ (startIsAccepted s).pins = s.pins
      ∧ (startIsAccepted s).time = s.time ∧ (startIsAccepted s).pending = s.pending := by
  simp only [startIsAccepted]
  split <;> simp

@[simp] theorem stretchReaches_frame :
    (stretchReaches s).pins = s.pins ∧ (stretchReaches s).time = s.time ∧ (stretchReaches s).pending = s.pending
      ∧ (stretchReaches s).pl.store = s.pl.store := by
  simp only [stretchReaches]
  (repeat' split) <;> simp

@[simp] theorem stuckClears_frame :
    (stuckClears s).re = s.re ∧ (stuckClears s).mc = s.mc ∧ (stuckClears s).ct = s.ct
      ∧ (stuckClears s).ev = s.ev ∧ (stuckClears s).mpc = s.mpc ∧ (stuckClears s).mu = s.mu
      ∧ (stuckClears s).da = s.da ∧ (stuckClears s).cu = s.cu ∧ (stuckClears s).pl = s.pl
      ∧ (stuckClears s).pins = s.pins ∧ (stuckClears s).time = s.time ∧ (stuckClears s).pending = s.pending := by
  simp [stuckClears]

@[simp] theorem assertedReading_frame :
    (assertedReading s).pins = s.pins ∧ (assertedReading s).time = s.time
      ∧ (assertedReading s).pending = s.pending ∧ (assertedReading s).pl.store = s.pl.store := by
  simp only [assertedReading]
  split <;> simp

@[simp] theorem releasedReading_frame :
    (releasedReading s).re = s.re ∧ (releasedReading s).mc = s.mc ∧ (releasedReading s).ct = s.ct
      ∧ (releasedReading s).ev = s.ev ∧ (releasedReading s).mpc = s.mpc ∧ (releasedReading s).mu = s.mu
      ∧ (releasedReading s).da = s.da ∧ (releasedReading s).cu = s.cu ∧ (releasedReading s).pl = s.pl
      ∧ (releasedReading s).pins = s.pins ∧ (releasedReading s).time = s.time
      ∧ (releasedReading s).pending = s.pending := by
  simp [releasedReading]

@[simp] theorem watchSeeking_frame (x : Bool) :
    (watchSeeking x s).pins = s.pins ∧ (watchSeeking x s).time = s.time ∧ (watchSeeking x s).pending = s.pending
      ∧ (watchSeeking x s).pl.store = s.pl.store := by
  simp only [watchSeeking]
  (repeat' split) <;> simp

@[simp] theorem watchIdle_frame (x : Bool) :
    (watchIdle x s).pins = s.pins ∧ (watchIdle x s).time = s.time ∧ (watchIdle x s).pending = s.pending
      ∧ (watchIdle x s).pl.store = s.pl.store := by
  simp only [watchIdle]
  (repeat' split) <;> simp

@[simp] theorem stretchGrows_frame :
    (stretchGrows s).pins = s.pins ∧ (stretchGrows s).time = s.time ∧ (stretchGrows s).pending = s.pending
      ∧ (stretchGrows s).pl.store = s.pl.store := by
  simp only [stretchGrows]
  (repeat' split) <;> simp

@[simp] theorem watchPulse_frame (x : Bool) :
    (watchPulse x s).pins = s.pins ∧ (watchPulse x s).time = s.time ∧ (watchPulse x s).pending = s.pending
      ∧ (watchPulse x s).pl.store = s.pl.store := by
  simp only [watchPulse]
  (repeat' split) <;> simp

@[simp] theorem watchRound_frame (x : Bool) :
    (watchRound x s).pins = s.pins ∧ (watchRound x s).time = s.time ∧ (watchRound x s).pending = s.pending
      ∧ (watchRound x s).pl.store = s.pl.store := by
  simp only [watchRound]
  (repeat' split) <;> simp

@[simp] theorem watchClosing_frame (x : Bool) :
    (watchClosing x s).pins = s.pins ∧ (watchClosing x s).time = s.time ∧ (watchClosing x s).pending = s.pending
      ∧ (watchClosing x s).pl.store = s.pl.store := by
  simp only [watchClosing]
  (repeat' split) <;> simp

@[simp] theorem watchLine_frame (x : Bool) :
    (watchLine x s).pins = s.pins ∧ (watchLine x s).time = s.time ∧ (watchLine x s).pending = s.pending
      ∧ (watchLine x s).pl.store = s.pl.store := by
  simp only [watchLine]
  (repeat' split) <;> simp

@[simp] theorem driveForPeriod_frame :
    (driveForPeriod s).mc = s.mc ∧ (driveForPeriod s).ev = s.ev ∧ (driveForPeriod s).mpc = s.mpc
      ∧ (driveForPeriod s).mu = s.mu ∧ (driveForPeriod s).da = s.da ∧ (driveForPeriod s).cu = s.cu
      ∧ (driveForPeriod s).pl = s.pl ∧ (driveForPeriod s).pins = s.pins ∧ (driveForPeriod s).time = s.time
      ∧ (driveForPeriod s).pending = s.pending := by
  simp only [driveForPeriod]
  (repeat' split) <;> simp

end Sys2Proof.Machine
end

