-- ==== Sys2Proof/Laws/FramesConverter.lean ====
section
/-! SUPPORT. What each operation of Machine/Converter.lean leaves alone: one lemma per operation, by parts of the state. -/

namespace Sys2Proof.Machine

variable (s : State)

@[simp] theorem clockConfirmed_frame :
    (clockConfirmed s).lif = s.lif ∧ (clockConfirmed s).ct = s.ct ∧ (clockConfirmed s).ev = s.ev
      ∧ (clockConfirmed s).mpc = s.mpc ∧ (clockConfirmed s).da = s.da ∧ (clockConfirmed s).cu = s.cu
      ∧ (clockConfirmed s).pl = s.pl ∧ (clockConfirmed s).pins = s.pins ∧ (clockConfirmed s).time = s.time
      ∧ (clockConfirmed s).pending = s.pending ∧ (clockConfirmed s).mc.state = s.mc.state := by
  simp [clockConfirmed]

@[simp] theorem linkHoldRunsOut_frame :
    (linkHoldRunsOut s).lif = s.lif ∧ (linkHoldRunsOut s).re = s.re ∧ (linkHoldRunsOut s).mc = s.mc
      ∧ (linkHoldRunsOut s).ct = s.ct ∧ (linkHoldRunsOut s).ev = s.ev ∧ (linkHoldRunsOut s).mpc = s.mpc
      ∧ (linkHoldRunsOut s).da = s.da ∧ (linkHoldRunsOut s).cu = s.cu ∧ (linkHoldRunsOut s).pl = s.pl
      ∧ (linkHoldRunsOut s).pins = s.pins ∧ (linkHoldRunsOut s).time = s.time
      ∧ (linkHoldRunsOut s).pending = s.pending := by
  simp only [linkHoldRunsOut]
  split <;> simp

@[simp] theorem batteryTimerRunsOut_frame :
    (batteryTimerRunsOut s).lif = s.lif ∧ (batteryTimerRunsOut s).ct = s.ct ∧ (batteryTimerRunsOut s).ev = s.ev
      ∧ (batteryTimerRunsOut s).mpc = s.mpc ∧ (batteryTimerRunsOut s).cu = s.cu
      ∧ (batteryTimerRunsOut s).pins = s.pins ∧ (batteryTimerRunsOut s).time = s.time
      ∧ (batteryTimerRunsOut s).pending = s.pending ∧ (batteryTimerRunsOut s).pl.store = s.pl.store
      ∧ (batteryTimerRunsOut s).mc.state = s.mc.state := by
  simp only [batteryTimerRunsOut]
  split <;> simp

@[simp] theorem requestQuiet_frame :
    (requestQuiet s).lif = s.lif ∧ (requestQuiet s).ct = s.ct ∧ (requestQuiet s).ev = s.ev
      ∧ (requestQuiet s).mpc = s.mpc ∧ (requestQuiet s).cu = s.cu ∧ (requestQuiet s).pins = s.pins
      ∧ (requestQuiet s).time = s.time ∧ (requestQuiet s).pending = s.pending
      ∧ (requestQuiet s).pl.store = s.pl.store ∧ (requestQuiet s).mc.state = s.mc.state := by
  simp [requestQuiet]

@[simp] theorem quietIntervalRunsOut_frame :
    (quietIntervalRunsOut s).lif = s.lif ∧ (quietIntervalRunsOut s).ct = s.ct
      ∧ (quietIntervalRunsOut s).ev = s.ev ∧ (quietIntervalRunsOut s).mpc = s.mpc
      ∧ (quietIntervalRunsOut s).cu = s.cu ∧ (quietIntervalRunsOut s).pins = s.pins
      ∧ (quietIntervalRunsOut s).time = s.time ∧ (quietIntervalRunsOut s).pending = s.pending
      ∧ (quietIntervalRunsOut s).pl.store = s.pl.store ∧ (quietIntervalRunsOut s).mc.state = s.mc.state := by
  simp only [quietIntervalRunsOut]
  split <;> simp

@[simp] theorem quietDelayRunsOut_frame :
    (quietDelayRunsOut s).lif = s.lif ∧ (quietDelayRunsOut s).ct = s.ct ∧ (quietDelayRunsOut s).ev = s.ev
      ∧ (quietDelayRunsOut s).cu = s.cu ∧ (quietDelayRunsOut s).pins = s.pins
      ∧ (quietDelayRunsOut s).time = s.time ∧ (quietDelayRunsOut s).pending = s.pending
      ∧ (quietDelayRunsOut s).pl.store = s.pl.store ∧ (quietDelayRunsOut s).mc.state = s.mc.state := by
  simp only [quietDelayRunsOut]
  split <;> simp

@[simp] theorem sampleBoundary_frame :
    (sampleBoundary s).lif = s.lif ∧ (sampleBoundary s).ct = s.ct ∧ (sampleBoundary s).ev = s.ev
      ∧ (sampleBoundary s).mpc = s.mpc ∧ (sampleBoundary s).cu = s.cu ∧ (sampleBoundary s).pins = s.pins
      ∧ (sampleBoundary s).time = s.time ∧ (sampleBoundary s).pending = s.pending
      ∧ (sampleBoundary s).pl.store = s.pl.store ∧ (sampleBoundary s).mc.state = s.mc.state := by
  simp only [sampleBoundary]
  split <;> simp

@[simp] theorem batteryOutcome_frame (c : Nat) :
    (batteryOutcome c s).lif = s.lif ∧ (batteryOutcome c s).ct = s.ct ∧ (batteryOutcome c s).ev = s.ev
      ∧ (batteryOutcome c s).mpc = s.mpc ∧ (batteryOutcome c s).cu = s.cu ∧ (batteryOutcome c s).pins = s.pins
      ∧ (batteryOutcome c s).time = s.time ∧ (batteryOutcome c s).pending = s.pending
      ∧ (batteryOutcome c s).pl.store = s.pl.store ∧ (batteryOutcome c s).mc.state = s.mc.state := by
  simp only [batteryOutcome]
  (repeat' split) <;> simp

@[simp] theorem quietCheckOutcome_frame (c : Nat) :
    (quietCheckOutcome c s).lif = s.lif ∧ (quietCheckOutcome c s).ct = s.ct ∧ (quietCheckOutcome c s).ev = s.ev
      ∧ (quietCheckOutcome c s).cu = s.cu ∧ (quietCheckOutcome c s).pins = s.pins
      ∧ (quietCheckOutcome c s).time = s.time ∧ (quietCheckOutcome c s).pending = s.pending
      ∧ (quietCheckOutcome c s).pl.store = s.pl.store ∧ (quietCheckOutcome c s).mc.state = s.mc.state := by
  simp only [quietCheckOutcome]
  split <;> simp

@[simp] theorem deliver_frame (u : User) (c : BitVec 12) :
    (deliver u c s).lif = s.lif ∧ (deliver u c s).ct = s.ct ∧ (deliver u c s).ev = s.ev
      ∧ (deliver u c s).cu = s.cu ∧ (deliver u c s).pins = s.pins ∧ (deliver u c s).time = s.time
      ∧ (deliver u c s).pending = s.pending ∧ (deliver u c s).pl.store = s.pl.store
      ∧ (deliver u c s).mc.state = s.mc.state := by
  simp only [deliver]
  split <;> simp

@[simp] theorem conversionEnds_frame (v : Int) :
    (conversionEnds v s).lif = s.lif ∧ (conversionEnds v s).ct = s.ct ∧ (conversionEnds v s).ev = s.ev
      ∧ (conversionEnds v s).cu = s.cu ∧ (conversionEnds v s).pins = s.pins ∧ (conversionEnds v s).time = s.time
      ∧ (conversionEnds v s).pending = s.pending ∧ (conversionEnds v s).pl.store = s.pl.store
      ∧ (conversionEnds v s).mc.state = s.mc.state := by
  simp only [conversionEnds]
  split <;> simp

@[simp] theorem helloRunsOut_frame :
    (helloRunsOut s).lif = s.lif ∧ (helloRunsOut s).ct = s.ct ∧ (helloRunsOut s).ev = s.ev
      ∧ (helloRunsOut s).cu = s.cu ∧ (helloRunsOut s).pins = s.pins ∧ (helloRunsOut s).time = s.time
      ∧ (helloRunsOut s).pending = s.pending ∧ (helloRunsOut s).pl.store = s.pl.store
      ∧ (helloRunsOut s).mc.state = s.mc.state := by
  simp only [helloRunsOut]
  split <;> simp

@[simp] theorem graceRunsOut_frame :
    (graceRunsOut s).lif = s.lif ∧ (graceRunsOut s).ct = s.ct ∧ (graceRunsOut s).ev = s.ev
      ∧ (graceRunsOut s).cu = s.cu ∧ (graceRunsOut s).pins = s.pins ∧ (graceRunsOut s).time = s.time
      ∧ (graceRunsOut s).pending = s.pending ∧ (graceRunsOut s).pl.store = s.pl.store
      ∧ (graceRunsOut s).mc.state = s.mc.state := by
  simp only [graceRunsOut]
  split <;> simp

end Sys2Proof.Machine
end

