-- ==== Sys2Proof/Laws/FramesLink.lean ====
section
/-! SUPPORT. What each operation of Machine/Link.lean leaves alone: one lemma per operation, by parts of the state. -/

namespace Sys2Proof.Machine

variable (s : State)

@[simp] theorem setTxn_frame (t : Option Txn) :
    (setTxn t s).lif = s.lif ∧ (setTxn t s).re = s.re ∧ (setTxn t s).mc = s.mc ∧ (setTxn t s).ct = s.ct
      ∧ (setTxn t s).ev = s.ev ∧ (setTxn t s).mpc = s.mpc ∧ (setTxn t s).mu = s.mu ∧ (setTxn t s).da = s.da
      ∧ (setTxn t s).cu = s.cu ∧ (setTxn t s).pins = s.pins ∧ (setTxn t s).time = s.time
      ∧ (setTxn t s).pending = s.pending ∧ (setTxn t s).pl.store = s.pl.store := by
  simp [setTxn]

@[simp] theorem awaitArguments_frame :
    (awaitArguments s).lif = s.lif ∧ (awaitArguments s).re = s.re ∧ (awaitArguments s).mc = s.mc
      ∧ (awaitArguments s).ct = s.ct ∧ (awaitArguments s).ev = s.ev ∧ (awaitArguments s).mpc = s.mpc
      ∧ (awaitArguments s).mu = s.mu ∧ (awaitArguments s).da = s.da ∧ (awaitArguments s).cu = s.cu
      ∧ (awaitArguments s).pins = s.pins ∧ (awaitArguments s).time = s.time
      ∧ (awaitArguments s).pending = s.pending ∧ (awaitArguments s).pl.store = s.pl.store := by
  simp only [awaitArguments]
  split <;> simp

@[simp] theorem linkAssert_frame :
    (linkAssert s).lif = s.lif ∧ (linkAssert s).re = s.re ∧ (linkAssert s).mc = s.mc ∧ (linkAssert s).ct = s.ct
      ∧ (linkAssert s).ev = s.ev ∧ (linkAssert s).mpc = s.mpc ∧ (linkAssert s).da = s.da
      ∧ (linkAssert s).cu = s.cu ∧ (linkAssert s).time = s.time ∧ (linkAssert s).pending = s.pending
      ∧ (linkAssert s).pl.store = s.pl.store := by
  simp only [linkAssert]
  (repeat' split) <;> simp

@[simp] theorem linkRelease_frame (n : Nat) :
    (linkRelease n s).lif = s.lif ∧ (linkRelease n s).re = s.re ∧ (linkRelease n s).mc = s.mc
      ∧ (linkRelease n s).ct = s.ct ∧ (linkRelease n s).ev = s.ev ∧ (linkRelease n s).mpc = s.mpc
      ∧ (linkRelease n s).da = s.da ∧ (linkRelease n s).cu = s.cu ∧ (linkRelease n s).time = s.time
      ∧ (linkRelease n s).pending = s.pending ∧ (linkRelease n s).pl.store = s.pl.store := by
  simp only [linkRelease]
  (repeat' split) <;> simp

@[simp] theorem markClearing_frame :
    (markClearing s).lif = s.lif ∧ (markClearing s).re = s.re ∧ (markClearing s).mc = s.mc
      ∧ (markClearing s).ct = s.ct ∧ (markClearing s).ev = s.ev ∧ (markClearing s).mpc = s.mpc
      ∧ (markClearing s).mu = s.mu ∧ (markClearing s).da = s.da ∧ (markClearing s).cu = s.cu
      ∧ (markClearing s).pins = s.pins ∧ (markClearing s).time = s.time ∧ (markClearing s).pending = s.pending
      ∧ (markClearing s).pl.store = s.pl.store := by
  simp [markClearing]

@[simp] theorem fixConfiguration_frame :
    (fixConfiguration s).cu = s.cu ∧ (fixConfiguration s).pins = s.pins ∧ (fixConfiguration s).time = s.time
      ∧ (fixConfiguration s).pending = s.pending ∧ (fixConfiguration s).pl.store = s.pl.store := by
  simp only [fixConfiguration]
  split <;> simp

@[simp] theorem releaseSlot_frame (i : Nat) :
    (releaseSlot i s).lif = s.lif ∧ (releaseSlot i s).ev = s.ev ∧ (releaseSlot i s).cu = s.cu
      ∧ (releaseSlot i s).pins = s.pins ∧ (releaseSlot i s).time = s.time
      ∧ (releaseSlot i s).pending = s.pending ∧ (releaseSlot i s).pl.store = s.pl.store
      ∧ (releaseSlot i s).mc.state = s.mc.state := by
  simp only [releaseSlot]
  (repeat' split) <;> simp

@[simp] theorem censusBegin_frame (l : Level) :
    (censusBegin l s).lif = s.lif ∧ (censusBegin l s).mc = s.mc ∧ (censusBegin l s).ct = s.ct
      ∧ (censusBegin l s).ev = s.ev ∧ (censusBegin l s).mpc = s.mpc ∧ (censusBegin l s).mu = s.mu
      ∧ (censusBegin l s).da = s.da ∧ (censusBegin l s).pl = s.pl ∧ (censusBegin l s).pins = s.pins
      ∧ (censusBegin l s).time = s.time ∧ (censusBegin l s).pending = s.pending := by
  simp only [censusBegin]
  split <;> simp

end Sys2Proof.Machine
end

