-- ==== Sys2Proof/Laws/FramesTick.lean ====
section
/-! SUPPORT. What each operation of Machine/Tick.lean leaves alone: one lemma per operation, by parts of the state. -/

namespace Sys2Proof.Machine

variable (s : State)

@[simp] theorem requestDue_frame :
    (requestDue s).pins = s.pins ∧ (requestDue s).time = s.time ∧ (requestDue s).pending = s.pending
      ∧ (requestDue s).pl.store = s.pl.store := by
  simp only [requestDue]
  split <;> simp

@[simp] theorem sampleSense_frame (k : Nat) :
    (sampleSense k s).lif = s.lif ∧ (sampleSense k s).ev = s.ev ∧ (sampleSense k s).cu = s.cu
      ∧ (sampleSense k s).pins = s.pins ∧ (sampleSense k s).time = s.time
      ∧ (sampleSense k s).pending = s.pending ∧ (sampleSense k s).pl.store = s.pl.store
      ∧ (sampleSense k s).mc.state = s.mc.state := by
  simp only [sampleSense]
  (repeat' split) <;> simp

@[simp] theorem countPhase_frame :
    (countPhase s).lif = s.lif ∧ (countPhase s).ct = s.ct ∧ (countPhase s).ev = s.ev
      ∧ (countPhase s).mpc = s.mpc ∧ (countPhase s).cu = s.cu ∧ (countPhase s).pins = s.pins
      ∧ (countPhase s).time = s.time ∧ (countPhase s).pending = s.pending ∧ (countPhase s).pl.store = s.pl.store
      ∧ (countPhase s).mc.state = s.mc.state := by
  simp only [countPhase]
  (repeat' split) <;> simp

@[simp] theorem countLinkHold_frame :
    (countLinkHold s).lif = s.lif ∧ (countLinkHold s).re = s.re ∧ (countLinkHold s).mc = s.mc
      ∧ (countLinkHold s).ct = s.ct ∧ (countLinkHold s).ev = s.ev ∧ (countLinkHold s).mpc = s.mpc
      ∧ (countLinkHold s).da = s.da ∧ (countLinkHold s).cu = s.cu ∧ (countLinkHold s).pl = s.pl
      ∧ (countLinkHold s).pins = s.pins ∧ (countLinkHold s).time = s.time
      ∧ (countLinkHold s).pending = s.pending := by
  simp only [countLinkHold]
  split <;> simp

@[simp] theorem countSettling_frame :
    (countSettling s).lif = s.lif ∧ (countSettling s).ct = s.ct ∧ (countSettling s).ev = s.ev
      ∧ (countSettling s).mpc = s.mpc ∧ (countSettling s).cu = s.cu ∧ (countSettling s).pins = s.pins
      ∧ (countSettling s).time = s.time ∧ (countSettling s).pending = s.pending
      ∧ (countSettling s).pl.store = s.pl.store ∧ (countSettling s).mc.state = s.mc.state := by
  simp only [countSettling]
  (repeat' split) <;> simp

@[simp] theorem countQuietDelay_frame :
    (countQuietDelay s).lif = s.lif ∧ (countQuietDelay s).ct = s.ct ∧ (countQuietDelay s).ev = s.ev
      ∧ (countQuietDelay s).cu = s.cu ∧ (countQuietDelay s).pins = s.pins ∧ (countQuietDelay s).time = s.time
      ∧ (countQuietDelay s).pending = s.pending ∧ (countQuietDelay s).pl.store = s.pl.store
      ∧ (countQuietDelay s).mc.state = s.mc.state := by
  simp only [countQuietDelay]
  (repeat' split) <;> simp

@[simp] theorem countGrace_frame :
    (countGrace s).lif = s.lif ∧ (countGrace s).ct = s.ct ∧ (countGrace s).ev = s.ev ∧ (countGrace s).cu = s.cu
      ∧ (countGrace s).pins = s.pins ∧ (countGrace s).time = s.time ∧ (countGrace s).pending = s.pending
      ∧ (countGrace s).pl.store = s.pl.store ∧ (countGrace s).mc.state = s.mc.state := by
  simp only [countGrace]
  (repeat' split) <;> simp

@[simp] theorem countHello_frame :
    (countHello s).lif = s.lif ∧ (countHello s).ct = s.ct ∧ (countHello s).ev = s.ev ∧ (countHello s).cu = s.cu
      ∧ (countHello s).pins = s.pins ∧ (countHello s).time = s.time ∧ (countHello s).pending = s.pending
      ∧ (countHello s).pl.store = s.pl.store ∧ (countHello s).mc.state = s.mc.state := by
  simp only [countHello]
  (repeat' split) <;> simp

@[simp] theorem countSlot_frame (i : Nat) :
    (countSlot i s).lif = s.lif ∧ (countSlot i s).ev = s.ev ∧ (countSlot i s).cu = s.cu
      ∧ (countSlot i s).pins = s.pins ∧ (countSlot i s).time = s.time ∧ (countSlot i s).pending = s.pending
      ∧ (countSlot i s).pl.store = s.pl.store ∧ (countSlot i s).mc.state = s.mc.state := by
  simp only [countSlot]
  (repeat' split) <;> simp

@[simp] theorem countWakeTimer_frame (t : Nat) :
    (countWakeTimer t s).lif = s.lif ∧ (countWakeTimer t s).ev = s.ev ∧ (countWakeTimer t s).mpc = s.mpc
      ∧ (countWakeTimer t s).mu = s.mu ∧ (countWakeTimer t s).da = s.da ∧ (countWakeTimer t s).cu = s.cu
      ∧ (countWakeTimer t s).pl = s.pl ∧ (countWakeTimer t s).pins = s.pins ∧ (countWakeTimer t s).time = s.time
      ∧ (countWakeTimer t s).pending = s.pending ∧ (countWakeTimer t s).mc.state = s.mc.state := by
  simp only [countWakeTimer]
  (repeat' split) <;> simp

@[simp] theorem countRejoin_frame :
    (countRejoin s).lif = s.lif ∧ (countRejoin s).ct = s.ct ∧ (countRejoin s).ev = s.ev
      ∧ (countRejoin s).mpc = s.mpc ∧ (countRejoin s).mu = s.mu ∧ (countRejoin s).da = s.da
      ∧ (countRejoin s).cu = s.cu ∧ (countRejoin s).pl = s.pl ∧ (countRejoin s).pins = s.pins
      ∧ (countRejoin s).time = s.time ∧ (countRejoin s).pending = s.pending
      ∧ (countRejoin s).mc.state = s.mc.state := by
  simp only [countRejoin]
  (repeat' split) <;> simp

@[simp] theorem countHeartbeat_frame :
    (countHeartbeat s).lif = s.lif ∧ (countHeartbeat s).ct = s.ct ∧ (countHeartbeat s).mpc = s.mpc
      ∧ (countHeartbeat s).mu = s.mu ∧ (countHeartbeat s).da = s.da ∧ (countHeartbeat s).cu = s.cu
      ∧ (countHeartbeat s).pl = s.pl ∧ (countHeartbeat s).pins = s.pins ∧ (countHeartbeat s).time = s.time
      ∧ (countHeartbeat s).pending = s.pending ∧ (countHeartbeat s).mc.state = s.mc.state := by
  simp only [countHeartbeat]
  (repeat' split) <;> simp

@[simp] theorem countSettle_frame :
    (countSettle s).lif = s.lif ∧ (countSettle s).ct = s.ct ∧ (countSettle s).cu = s.cu
      ∧ (countSettle s).pins = s.pins ∧ (countSettle s).time = s.time ∧ (countSettle s).pending = s.pending
      ∧ (countSettle s).pl.store = s.pl.store ∧ (countSettle s).mc.state = s.mc.state := by
  simp only [countSettle]
  (repeat' split) <;> simp

@[simp] theorem countBattery_frame :
    (countBattery s).lif = s.lif ∧ (countBattery s).ct = s.ct ∧ (countBattery s).ev = s.ev
      ∧ (countBattery s).mpc = s.mpc ∧ (countBattery s).cu = s.cu ∧ (countBattery s).pins = s.pins
      ∧ (countBattery s).time = s.time ∧ (countBattery s).pending = s.pending
      ∧ (countBattery s).pl.store = s.pl.store ∧ (countBattery s).mc.state = s.mc.state := by
  simp only [countBattery]
  (repeat' split) <;> simp

@[simp] theorem countQuietInterval_frame :
    (countQuietInterval s).lif = s.lif ∧ (countQuietInterval s).ct = s.ct ∧ (countQuietInterval s).ev = s.ev
      ∧ (countQuietInterval s).mpc = s.mpc ∧ (countQuietInterval s).cu = s.cu
      ∧ (countQuietInterval s).pins = s.pins ∧ (countQuietInterval s).time = s.time
      ∧ (countQuietInterval s).pending = s.pending ∧ (countQuietInterval s).pl.store = s.pl.store
      ∧ (countQuietInterval s).mc.state = s.mc.state := by
  simp only [countQuietInterval]
  (repeat' split) <;> simp

@[simp] theorem countExclusion_frame :
    (countExclusion s).lif = s.lif ∧ (countExclusion s).mc = s.mc ∧ (countExclusion s).ct = s.ct
      ∧ (countExclusion s).ev = s.ev ∧ (countExclusion s).mpc = s.mpc ∧ (countExclusion s).mu = s.mu
      ∧ (countExclusion s).da = s.da ∧ (countExclusion s).pl = s.pl ∧ (countExclusion s).pins = s.pins
      ∧ (countExclusion s).time = s.time ∧ (countExclusion s).pending = s.pending := by
  simp only [countExclusion]
  (repeat' split) <;> simp

@[simp] theorem countHoldOff_frame :
    (countHoldOff s).lif = s.lif ∧ (countHoldOff s).mc = s.mc ∧ (countHoldOff s).ct = s.ct
      ∧ (countHoldOff s).ev = s.ev ∧ (countHoldOff s).mpc = s.mpc ∧ (countHoldOff s).mu = s.mu
      ∧ (countHoldOff s).da = s.da ∧ (countHoldOff s).pl = s.pl ∧ (countHoldOff s).pins = s.pins
      ∧ (countHoldOff s).time = s.time ∧ (countHoldOff s).pending = s.pending := by
  simp only [countHoldOff]
  split <;> simp

@[simp] theorem countQuietTicks_frame :
    (countQuietTicks s).lif = s.lif ∧ (countQuietTicks s).re = s.re ∧ (countQuietTicks s).mc = s.mc
      ∧ (countQuietTicks s).ct = s.ct ∧ (countQuietTicks s).ev = s.ev ∧ (countQuietTicks s).mpc = s.mpc
      ∧ (countQuietTicks s).mu = s.mu ∧ (countQuietTicks s).cu = s.cu ∧ (countQuietTicks s).pl = s.pl
      ∧ (countQuietTicks s).pins = s.pins ∧ (countQuietTicks s).time = s.time
      ∧ (countQuietTicks s).pending = s.pending := by
  simp [countQuietTicks]

@[simp] theorem takeDecisionsIf_frame (due : Bool) :
    (takeDecisionsIf due s).lif = s.lif ∧ (takeDecisionsIf due s).cu = s.cu ∧ (takeDecisionsIf due s).pins = s.pins
      ∧ (takeDecisionsIf due s).time = s.time ∧ (takeDecisionsIf due s).pending = s.pending
      ∧ (takeDecisionsIf due s).pl.store = s.pl.store ∧ (takeDecisionsIf due s).mc.state = s.mc.state := by
  simp only [takeDecisionsIf]
  split <;> simp

end Sys2Proof.Machine
end

