-- ==== Sys2Proof/Laws/Effects.lean ====
section
/-! SUPPORT. What the shared operations do: events, wants, switches, charges, slots, and the two gates that the meanings
stand behind. -/

namespace Sys2Proof.Machine

variable (s : State)

/-! ## Events (R193, R194) -/

theorem raiseEvent_pl (e : Event) : (raiseEvent e s).pl =
    { s.pl with events := s.pl.events ||| e.mask, clearing := s.pl.clearing &&& ~~~e.mask } := rfl

theorem Event.mask_getLsbD (e : Event) (i : Nat) (h : i < 16) : e.mask.getLsbD i = (i == e.bit) := by
  cases e <;> interval_cases i <;> decide

theorem Event.bit_lt (e : Event) : e.bit < 16 := by cases e <;> decide

@[simp] theorem eventSet_raiseEvent (e f : Event) : (raiseEvent e s).eventSet f = (s.eventSet f || f.bit == e.bit) := by
  simp only [State.eventSet, raiseEvent_pl, BitVec.getLsbD_or, e.mask_getLsbD f.bit f.bit_lt]

/-! ## The converter (R138) -/

theorem Channel.lsb_pos (c : Channel) : 0 < c.lsb := by cases c <;> decide

/-- Whatever the rounding, the code is one that R138 allows the input. -/
theorem Channel.code_convertsTo (c : Channel) (v : Int) (up : Bool) : convertsTo c.lsb v (c.code v up) := by
  have hl := c.lsb_pos
  have hu : up.toNat ≤ 1 := Bool.toNat_le up
  unfold convertsTo Channel.code
  generalize c.lsb = l at *
  have between (k : Nat) (hk : k < 4095) (h1 : (k * l : Nat) ≤ v) (h2 : v < ((k + 1) * l : Nat)) :
      v.toNat / l = k ∧ ¬ 4095 * l ≤ v.toNat := by
    refine ⟨Nat.div_eq_of_lt_le (by omega) (by omega), fun h => ?_⟩
    have := Nat.mul_le_mul_right l (show k + 1 ≤ 4095 by omega)
    omega
  refine ⟨fun h => ?_, fun h => ?_, fun k hk h => ?_, fun k hk h1 h2 => ?_⟩
  · simp [Int.toNat_eq_zero.2 h, hl.ne']
  · simp only [show 4095 * l ≤ v.toNat by omega, if_true]
  · rcases Nat.lt_or_eq_of_le hk with hk | rfl
    · obtain ⟨hd, hn⟩ := between k hk (by omega) (by rw [h, Nat.succ_mul]; omega)
      have hm : v.toNat % l = 0 := by rw [show v.toNat = k * l by omega]; exact Nat.mul_mod_left k l
      simp only [hn, hd, hm, if_false, if_true, BitVec.toNat_ofNat]
      omega
    · simp [show v.toNat = 4095 * l by omega]
  · obtain ⟨hd, hn⟩ := between k hk (by omega) h2
    simp only [hn, hd, if_false, BitVec.toNat_ofNat]
    split <;> omega
/-- The end of the conversion of a user: some code that R138 allows the input is delivered to its consumers. -/
theorem conversionEnds_delivers (u : User) (h : s.mu.inFlight = some u) (v : Int) :
    ∃ x : BitVec 12, convertsTo u.channel.lsb v x ∧ conversionEnds v s = selectOrStop
      (deliver u x (s.withMu { s.mu with inFlight := none, conversions := s.mu.conversions + 1 })) :=
  ⟨_, u.channel.code_convertsTo v _, by rw [conversionEnds, h]⟩

/-! ## The settings -/

/-- Being fixed depends on the membership state alone. -/
theorem fixed_congr (t : State) (hm : t.mc.state = s.mc.state) : t.fixed = s.fixed := by rw [State.fixed, State.fixed, hm]

/-- The settings depend on the membership state and the store alone. -/
theorem settings_congr (t : State) (hm : t.mc.state = s.mc.state) (hp : t.pl.store = s.pl.store) :
    t.settings = s.settings := by
  rw [State.settings, State.settings, fixed_congr s t hm, hp]

theorem settings_of_fixed (h : s.fixed = true) : s.settings = s.pl.store := by simp [State.settings, h]

/-! ## The Status want (R31, R55) -/

theorem raiseStatus_member (h : s.mc.state = .member) :
    raiseStatus s = s.withRe { s.re with status := s.re.status.raise (s.pastCovering .status) } := by
  simp [raiseStatus, h]

theorem raiseStatus_local (h : s.isLocal = true) : raiseStatus s = s.withMc { s.mc with decisionDue := true } := by
  cases hs : s.mc.state <;> simp_all [raiseStatus, State.isLocal, Membership.isLocal]

theorem raiseStatus_other (h : s.mc.state = .unconfigured ∨ s.mc.state = .joining) : raiseStatus s = s := by
  rcases h with h | h <;> simp [raiseStatus, h]

@[simp] theorem raiseStatus_settings : (raiseStatus s).settings = s.settings := settings_congr _ _ (by simp) (by simp)

/-! ## The drain account (R157 to R164) -/

theorem charge_spent (n : Nat) : (charge n s).da.spent = min (s.da.spent + n) Config.spentMax := by
  simp only [charge]
  split <;> simp

theorem recomputeGrades_da : (recomputeGrades s).da = (regrade s).da := by
  simp only [recomputeGrades]
  split <;> simp

theorem regrade_pressure : (regrade s).da.pressure =
    max (max s.balanceGradeNow s.rateGradeNow) (if s.mu.batteryLow then 7 else 0) := by
  simp [regrade]

theorem regrade_spent : (regrade s).da.spent = s.da.spent := by simp [regrade]

theorem regrade_window : (regrade s).da.window = s.da.window := by simp [regrade]

/-! ## The switches (R112) -/

theorem moveTo_outputsAgree (m : Mpc) (st : ModuleState) (n : Need) : (m.moveTo st n).outputsAgree = true := by
  cases st <;> cases n <;> rfl

/-! ## Slots -/

@[simp] theorem slot_setSlot (i : Nat) (c : Cause) (h : i < s.ct.slots.length) : (setSlot i c s).slot i = c := by
  simp [setSlot, State.slot, List.getD_eq_getElem?_getD, h]

theorem slot_setSlot_ne (i j : Nat) (c : Cause) (h : i ≠ j) : (setSlot i c s).slot j = s.slot j := by
  simp [setSlot, State.slot, List.getD_eq_getElem?_getD, List.getElem?_set_ne h]

/-! ## The table (R82, R84) -/

theorem topExclusive_foldl (d : Level) (t : List Entry) (e : Level) :
    (t.map fun x => { x with suspended := decide (x.level < d) }).foldl
        (fun e x => if x.exclusive then max e x.level else e) e
      = t.foldl (fun e x => if x.exclusive then max e x.level else e) e := by
  induction t generalizing e with
  | nil => rfl
  | cons x xs ih => exact ih _

@[simp] theorem topExclusive_resuspend (t : List Entry) : topExclusive (resuspend t) = topExclusive t :=
  topExclusive_foldl _ t 0

/-! ## The gates -/

theorem gated_of_rstN (f : State → State) (h : s.pins.rstN = true) : gated s f = .next (f s) := by simp [gated, h]

theorem gated_of_reset (f : State → State) (h : s.pins.rstN = false) : gated s f = .next s := by simp [gated, h]

/-- A link command with no transaction open or the link dead changes nothing (R181). -/
theorem linkCommand_closed (owner : State → Answer) (h : s.linkOpen = false) : linkCommand owner s = .next s := by
  simp [linkCommand, h]

/-- A link command while the fast clock is not Running is refused Busy-clock (R183). -/
theorem linkCommand_busy (owner : State → Answer) (h : s.linkOpen = true) (hc : s.mu.clock ≠ .running) :
    linkCommand owner s = .next (setTxn (some (.refused statusBusy)) s) := by
  simp [linkCommand, h, hc]

/-- A link command that is taken, and leaves RAILA on: its effect, and the answer in the transaction (R182). -/
theorem linkCommand_taken (owner : State → Answer) (h : s.linkOpen = true) (hc : s.mu.clock = .running)
    (ha : (owner s).state.mpc.raila = true) :
    linkCommand owner s
      = .next (setTxn (some (.taken ((owner s).status :: (owner s).response))) (owner s).state) := by
  simp [linkCommand, takeCommand, h, hc, ha]

/-! ## Runs of bits and of counts -/

/-- A part that every effect of a list leaves alone is left alone by the list. -/
theorem inOrder_keeps {α : Type} (p : State → α) (fs : List (State → State)) (h : ∀ f ∈ fs, ∀ t, p (f t) = p t) :
    p (inOrder fs s) = p s := by
  induction fs generalizing s with
  | nil => rfl
  | cons f fs ih =>
    have := ih (f s) fun g hg => h g (List.mem_cons_of_mem _ hg)
    simpa [inOrder, h f (List.mem_cons_self ..)] using this

/-- A property that every effect of a list keeps is kept by the list. -/
theorem inOrder_induct (P : State → Prop) (fs : List (State → State)) (h : ∀ f ∈ fs, ∀ t, P t → P (f t)) (hs : P s) :
    P (inOrder fs s) := by
  induction fs generalizing s with
  | nil => exact hs
  | cons f fs ih => exact ih (f s) (fun g hg => h g (List.mem_cons_of_mem _ hg)) (h f (List.mem_cons_self ..) s hs)

@[simp] theorem runBits_frame (xs : List Bool) :
    (runBits xs s).pins = s.pins ∧ (runBits xs s).time = s.time ∧ (runBits xs s).pending = s.pending
      ∧ (runBits xs s).pl.store = s.pl.store := by
  induction xs generalizing s with
  | nil => simp [runBits]
  | cons x xs ih => simp [runBits, ih]

theorem runBits_induct (P : State → Prop) (h : ∀ x t, P t → P (runBit x t)) (xs : List Bool) (hs : P s) :
    P (runBits xs s) := by
  induction xs generalizing s with
  | nil => exact hs
  | cons x xs ih => exact ih (runBit x s) (h x s hs)

/-- A property that every effect of a period keeps, and the count of the period, is kept by the period. -/
theorem slowPeriod_induct (P : State → Prop)
    (h : ∀ due, ∀ f ∈ periodBegins due ++ tickCounts ++ periodEnds, ∀ t, P t → P (f t))
    (ht : P (s.withTime (s.time + 1))) : P (slowPeriod s) := by
  have part : ∀ (due : Bool) (fs : List (State → State)),
      (∀ f ∈ fs, f ∈ periodBegins due ++ tickCounts ++ periodEnds) → ∀ t, P t → P (inOrder fs t) :=
    fun due fs hf t => inOrder_induct t P fs fun f hm => h due f (hf f hm)
  have begins := part (s.mc.decisionDue || s.mc.restDue) (periodBegins (s.mc.decisionDue || s.mc.restDue))
    (by intro f; simp only [List.mem_append]; tauto) _ ht
  unfold slowPeriod
  split
  · refine part true _ (by intro f; simp only [List.mem_append]; tauto) _ ?_
    split
    · exact part true _ (by intro f; simp only [List.mem_append]; tauto) _ begins
    · exact begins
  · exact ht

/-- What a slow-clock period leaves alone, and the period it counts. -/
@[simp] theorem slowPeriod_frame :
    (slowPeriod s).pins = s.pins ∧ (slowPeriod s).pending = s.pending ∧ (slowPeriod s).pl.store = s.pl.store
      ∧ (slowPeriod s).time = s.time + 1 := by
  refine slowPeriod_induct s (fun t => t.pins = s.pins ∧ t.pending = s.pending ∧ t.pl.store = s.pl.store
    ∧ t.time = s.time + 1) (fun due => ?_) (by simp)
  simp +contextual [periodBegins, periodCounts, tickCounts, periodEnds]

/-! ## Frames -/

/-- The frame of a step, part by part: with the parts named, simp leaves the equations of the others. -/
theorem changesOnly_iff (bs : List Block) (t : State) : changesOnly bs s t ↔
    (.lif ∉ bs → t.lif = s.lif) ∧ (.re ∉ bs → t.re = s.re) ∧ (.mc ∉ bs → t.mc = s.mc) ∧ (.ct ∉ bs → t.ct = s.ct)
      ∧ (.ev ∉ bs → t.ev = s.ev) ∧ (.mpc ∉ bs → t.mpc = s.mpc) ∧ (.mu ∉ bs → t.mu = s.mu)
      ∧ (.da ∉ bs → t.da = s.da) ∧ (.cu ∉ bs → t.cu = s.cu) ∧ (.pl ∉ bs → t.pl = s.pl)
      ∧ (.pins ∉ bs → t.pins = s.pins) ∧ (.time ∉ bs → t.time = s.time)
      ∧ (.pending ∉ bs → t.pending = s.pending) :=
  ⟨fun h => ⟨h .lif, h .re, h .mc, h .ct, h .ev, h .mpc, h .mu, h .da, h .cu, h .pl, h .pins, h .time, h .pending⟩,
    fun h b hb => by
      obtain ⟨h1, h2, h3, h4, h5, h6, h7, h8, h9, h10, h11, h12, h13⟩ := h
      cases b
      exacts [h1 hb, h2 hb, h3 hb, h4 hb, h5 hb, h6 hb, h7 hb, h8 hb, h9 hb, h10 hb, h11 hb, h12 hb, h13 hb]⟩

end Sys2Proof.Machine
end

