-- ==== Sys2Proof/Laws/Wants.lean ====
section
/-! SUPPORT. What the operations that may raise a Status want do to the membership record and the want set: nothing but
that want, and in local mode the decision that is due; and what line faults and the end of a round do to the line. -/

namespace Sys2Proof.Machine

/-- From s to t the membership record changes in `decisionDue` alone and the RE in its Status and Rest wants, neither
`decisionDue` nor the Status want is lost, and the membership state and the store stand. -/
def wantsOnly (s t : State) : Prop :=
  t.mc = { s.mc with decisionDue := t.mc.decisionDue }
    ∧ t.re = { s.re with status := t.re.status, rest := t.re.rest }
    ∧ (s.mc.decisionDue = true → t.mc.decisionDue = true)
    ∧ (s.re.status.held = true → t.re.status.held = true)
    ∧ t.pl.store = s.pl.store

theorem wantsOnly_of_eq {s t : State} (hm : t.mc = s.mc) (hr : t.re = s.re) (hp : t.pl.store = s.pl.store) :
    wantsOnly s t := by
  simp [wantsOnly, hm, hr, hp]

theorem wantsOnly_refl (s : State) : wantsOnly s s := wantsOnly_of_eq rfl rfl rfl

theorem wantsOnly_trans {s t u : State} (h : wantsOnly s t) (k : wantsOnly t u) : wantsOnly s u := by
  obtain ⟨h1, h2, h3, h4, h5⟩ := h
  obtain ⟨k1, k2, k3, k4, k5⟩ := k
  refine ⟨?_, ?_, fun x => k3 (h3 x), fun x => k4 (h4 x), k5.trans h5⟩
  · rw [k1, h1]
  · rw [k2, h2]

theorem raiseStatus_wantsOnly (s : State) : wantsOnly s (raiseStatus s) := by
  simp only [wantsOnly, raiseStatus]
  split <;> simp [Want.raise]

/-- A raised Status want is held by a Member (R31). -/
theorem raiseStatus_held (s : State) (h : s.mc.state = .member) : (raiseStatus s).re.status.held = true := by
  simp [raiseStatus_member s h, Want.raise]

/-- A raised Status want makes a local decision due in local mode (R55). -/
theorem raiseStatus_due (s : State) (h : s.isLocal = true) : (raiseStatus s).mc.decisionDue = true := by
  simp [raiseStatus_local s h]

theorem recomputeGrades_wantsOnly (s : State) : wantsOnly s (recomputeGrades s) := by
  simp only [recomputeGrades]
  split
  · exact wantsOnly_of_eq (by simp) (by simp) (by simp)
  · exact wantsOnly_trans (wantsOnly_of_eq (by simp) (by simp) (by simp)) (raiseStatus_wantsOnly _)

theorem refill_wantsOnly (s : State) : wantsOnly s (refill s) :=
  wantsOnly_trans (wantsOnly_of_eq (by simp) (by simp) (by simp)) (recomputeGrades_wantsOnly _)

theorem sampleEntry_wantsOnly (x : BitVec 12) (s : State) : wantsOnly s (sampleEntry x s) := by
  simp only [sampleEntry]
  split
  · exact wantsOnly_trans (wantsOnly_of_eq (by simp) (by simp) (by simp)) (recomputeGrades_wantsOnly _)
  · exact wantsOnly_refl _

theorem quietCharge_wantsOnly (q : Nat) (s : State) : wantsOnly s (quietCharge q s) := by
  simp only [quietCharge]
  split
  · exact wantsOnly_trans (wantsOnly_of_eq (by simp) (by simp) (by simp)) (recomputeGrades_wantsOnly _)
  · exact wantsOnly_refl _

theorem setClockFault_wantsOnly (b : Bool) (s : State) : wantsOnly s (setClockFault b s) := by
  simp only [setClockFault]
  split
  · exact wantsOnly_refl _
  · exact wantsOnly_trans (wantsOnly_of_eq (by simp) (by simp) (by simp)) (raiseStatus_wantsOnly _)

theorem clockFails_wantsOnly (s : State) : wantsOnly s (clockFails s) := by
  simp only [clockFails]
  split
  · refine wantsOnly_trans ?_ (sampleEntry_wantsOnly _ _)
    refine wantsOnly_trans ?_ (wantsOnly_of_eq (by simp) (by simp) (by simp)
      (s := setClockFault true (s.withMu { s.mu with
        clock := .failed, startTime := none, reqBattery := false, reqQuiet := false, reqDrain := false
        inFlight := none })))
    exact wantsOnly_trans (wantsOnly_of_eq (by simp) (by simp) (by simp)) (setClockFault_wantsOnly _ _)
  · refine wantsOnly_trans ?_ (wantsOnly_of_eq (by simp) (by simp) (by simp)
      (s := setClockFault true (s.withMu { s.mu with
        clock := .failed, startTime := none, reqBattery := false, reqQuiet := false, reqDrain := false
        inFlight := none })))
    exact wantsOnly_trans (wantsOnly_of_eq (by simp) (by simp) (by simp)) (setClockFault_wantsOnly _ _)

theorem railOff_wantsOnly (s : State) : wantsOnly s (railOff s) := by
  simp only [railOff, drainRailOff]
  exact wantsOnly_trans (wantsOnly_of_eq (by simp) (by simp) (by simp)) (recomputeGrades_wantsOnly _)

theorem enterPowering_wantsOnly (n : Need) (s : State) : wantsOnly s (enterPowering n s) := by
  simp only [enterPowering]
  exact wantsOnly_trans (wantsOnly_of_eq (by simp) (by simp) (by simp)) (raiseStatus_wantsOnly _)

theorem enterParking_wantsOnly (s : State) : wantsOnly s (enterParking s) := by
  simp only [enterParking]
  exact wantsOnly_trans (wantsOnly_of_eq (by simp) (by simp) (by simp)) (raiseStatus_wantsOnly _)

theorem cancelPark_wantsOnly (n : Need) (s : State) : wantsOnly s (cancelPark n s) := by
  simp only [cancelPark]
  exact wantsOnly_trans (wantsOnly_of_eq (by simp) (by simp) (by simp)) (raiseStatus_wantsOnly _)

theorem recordNeed_wantsOnly (n : Need) (s : State) : wantsOnly s (recordNeed n s) :=
  wantsOnly_of_eq (by simp) (by simp) (by simp)

theorem evaluateNeed_wantsOnly (s : State) : wantsOnly s (evaluateNeed s) := by
  simp only [evaluateNeed]
  split
  · exact wantsOnly_refl _
  · split
    · split
      · exact recordNeed_wantsOnly _ _
      · exact enterPowering_wantsOnly _ _
    · exact recordNeed_wantsOnly _ _
    · simp only [evaluateOn]
      split
      · exact enterParking_wantsOnly _
      · exact wantsOnly_of_eq (by simp) (by simp) (by simp)
    · split
      · exact recordNeed_wantsOnly _ _
      · exact cancelPark_wantsOnly _ _
    · split
      · simp only [overrideCut]
        exact wantsOnly_trans (wantsOnly_of_eq (by simp) (by simp) (by simp)) (enterPowering_wantsOnly _ _)
      · exact recordNeed_wantsOnly _ _

theorem leaveCut_wantsOnly (s : State) : wantsOnly s (leaveCut s) := by
  simp only [leaveCut]
  exact wantsOnly_trans (wantsOnly_of_eq (by simp) (by simp) (by simp)) (raiseStatus_wantsOnly _)

theorem restoreModule_wantsOnly (s : State) : wantsOnly s (restoreModule s) := by
  simp only [restoreModule]
  split
  · exact wantsOnly_trans (leaveCut_wantsOnly _) (evaluateNeed_wantsOnly _)
  · exact wantsOnly_refl _

theorem setLoud_wantsOnly (n : Nat) (s : State) : wantsOnly s (setLoud n s) := by
  simp only [setLoud]
  split
  · exact wantsOnly_of_eq (by simp) (by simp) (by simp)
  · exact wantsOnly_trans (wantsOnly_of_eq (by simp) (by simp) (by simp)) (raiseStatus_wantsOnly _)

theorem loudOutcome_wantsOnly (s : State) : wantsOnly s (loudOutcome s) := by
  simp only [loudOutcome]
  split
  · refine wantsOnly_trans (setLoud_wantsOnly (min (s.mpc.loud + 1) 7) s) ?_
    simp only [enterCut]
    exact wantsOnly_trans (wantsOnly_of_eq (by simp) (by simp) (by simp)) (raiseStatus_wantsOnly _)
  · exact setLoud_wantsOnly _ _

theorem trigger_wantsOnly (i : Nat) (s : State) : wantsOnly s (trigger i s) := by
  simp only [trigger]
  split
  · exact wantsOnly_refl _
  · exact wantsOnly_trans (wantsOnly_of_eq (by simp) (by simp) (by simp)) (raiseStatus_wantsOnly _)
  · exact wantsOnly_of_eq (by simp) (by simp) (by simp)
  · exact wantsOnly_refl _
  · split
    · exact wantsOnly_of_eq (by simp) (by simp) (by simp)
    · exact wantsOnly_refl _

theorem reportCause_wantsOnly (c : Cause) (s : State) : wantsOnly s (reportCause c s) := by
  simp only [reportCause]
  split
  · exact evaluateNeed_wantsOnly _
  · exact wantsOnly_refl _

theorem ctStatus_wantsOnly (o : Option Half) (a : Alarms) (s : State) : wantsOnly s (ctStatus o a s) := by
  simp only [ctStatus]
  refine wantsOnly_trans (t := wantAcceptable (curtail (acceptOffers o s))) (wantsOnly_trans
    (t := curtail (acceptOffers o s)) (wantsOnly_trans (t := acceptOffers o s) ?_ ?_) ?_) ?_
  · exact wantsOnly_of_eq (by simp) (by simp) (by simp)
  · simp only [curtail]
    split
    · exact wantsOnly_trans (wantsOnly_of_eq (by simp) (by simp) (by simp)) (raiseStatus_wantsOnly _)
    · exact wantsOnly_refl _
  · simp only [wantAcceptable]
    split
    · exact raiseStatus_wantsOnly _
    · exact wantsOnly_refl _
  · simp only [alarmSlot]
    split
    · exact wantsOnly_trans (wantsOnly_of_eq (by simp) (by simp) (by simp)) (trigger_wantsOnly _ _)
    · exact wantsOnly_of_eq (by simp) (by simp) (by simp)

theorem setNet_wantsOnly (n : NetState) (s : State) : wantsOnly s (setNet n s) := by
  simp only [setNet, batteryOnNetChange]
  split <;> split <;> simp [wantsOnly, withdrawRest]

theorem evStatus_wantsOnly (v : StatusValues) (d : HoldMap) (o : Option Half) (s : State) :
    wantsOnly s (evStatus v d o s) := by
  simp only [evStatus]
  generalize hu : s.withEv { s.ev with grade := v.pressure } = u
  have h0 : wantsOnly s u := by
    rw [← hu]
    exact wantsOnly_of_eq (by simp) (by simp) (by simp)
  generalize hw : setNet (netAfterStatus (v.hold != 0 || v.objection) u.ev.net) u = w
  have h1 : wantsOnly u w := by
    rw [← hw]
    exact setNet_wantsOnly _ _
  exact wantsOnly_trans (wantsOnly_trans h0 h1) (wantsOnly_of_eq (by simp) (by simp) (by simp))

theorem evRest_wantsOnly (h d : HoldMap) (b : Bool) (s : State) : wantsOnly s (evRest h d b s) := by
  simp only [evRest]
  generalize hw : setNet (netAfterRest (h != 0 || b)) s = w
  have h1 : wantsOnly s w := by
    rw [← hw]
    exact setNet_wantsOnly _ _
  exact wantsOnly_trans h1 (wantsOnly_of_eq (by simp) (by simp) (by simp))

theorem mpcStatus_wantsOnly (b : Bool) (s : State) : wantsOnly s (mpcStatus b s) := by
  simp only [mpcStatus]
  refine wantsOnly_trans ?_ (evaluateNeed_wantsOnly _)
  split
  · exact restoreModule_wantsOnly _
  · exact wantsOnly_refl _

/-- A local decision of the Status kind, its own due mark cleared first. -/
theorem localStatus_wantsOnly (s : State) :
    wantsOnly (s.withMc { s.mc with decisionDue := false }) (localStatus s) := by
  simp only [localStatus]
  generalize ha : offerCauses (s.withMc { s.mc with decisionDue := false }) = a
  have h0 : wantsOnly (s.withMc { s.mc with decisionDue := false }) a := by
    rw [← ha]
    exact wantsOnly_of_eq (by simp) (by simp) (by simp)
  generalize hb : ctStatus none a.ev.alarm (evStatus a.localValues a.localValues.hold none a) = b
  have h1 : wantsOnly a b := by
    rw [← hb]
    exact wantsOnly_trans (evStatus_wantsOnly _ _ _ _) (ctStatus_wantsOnly _ _ _)
  generalize hc : (if a.localValues.refill = true then refill b else b) = c
  have h2 : wantsOnly b c := by
    rw [← hc]
    split
    · exact refill_wantsOnly _
    · exact wantsOnly_refl _
  have h3 : wantsOnly c (mpcStatus a.localValues.restore (unfreeze c)) :=
    wantsOnly_trans (wantsOnly_of_eq (by simp) (by simp) (by simp)) (mpcStatus_wantsOnly _ _)
  have h4 := wantsOnly_trans (wantsOnly_trans (wantsOnly_trans h0 h1) h2) h3
  exact wantsOnly_trans h4 (wantsOnly_of_eq (by simp) (by simp) (by simp))

theorem localRest_wantsOnly (s : State) : wantsOnly s (localRest s) := by
  simp only [localRest]
  exact wantsOnly_trans (evRest_wantsOnly _ _ _ _) (evaluateNeed_wantsOnly _)

/-- Entry to local mode keeps the membership record but for the decision that is due (R54). -/
theorem enterLocal_mc (s : State) : (enterLocal s).mc = { s.mc with decisionDue := (enterLocal s).mc.decisionDue }
    ∧ (enterLocal s).re = { s.re with status := (enterLocal s).re.status, rest := (enterLocal s).re.rest } := by
  have h := localStatus_wantsOnly (evLocalEntry s)
  have k := localRest_wantsOnly (localStatus (evLocalEntry s))
  simp only [wantsOnly, State.withMc_mc, State.withMc_re, evLocalEntry_frame] at h k
  simp only [enterLocal]
  split
  · constructor
    · rw [k.1, h.1]
    · rw [k.2.1, h.2.1]
  · exact ⟨h.1, h.2.1⟩

@[simp] theorem enterLocal_keeps (s : State) :
    (enterLocal s).mc.number = s.mc.number ∧ (enterLocal s).mc.digest = s.mc.digest
      ∧ (enterLocal s).mc.counter = s.mc.counter ∧ (enterLocal s).mc.disagreement = s.mc.disagreement
      ∧ (enterLocal s).mc.rejoin = s.mc.rejoin ∧ (enterLocal s).mc.lastFault = s.mc.lastFault
      ∧ (enterLocal s).mc.restDue = s.mc.restDue ∧ (enterLocal s).re.record = s.re.record
      ∧ (enterLocal s).re.join = s.re.join ∧ (enterLocal s).re.census = s.re.census
      ∧ (enterLocal s).re.voids = s.re.voids := by
  obtain ⟨h, k⟩ := enterLocal_mc s
  refine ⟨?_, ?_, ?_, ?_, ?_, ?_, ?_, ?_, ?_, ?_, ?_⟩
  any_goals rw [h]
  all_goals rw [k]

/-- What a line-fault report does to a Member, a Joining and a Degraded station (R47 to R49). -/
theorem reportFault_spec (f : LineFault) (s : State)
    (h : s.mc.state = .member ∨ s.mc.state = .joining ∧ f ≠ .lostSync ∨ s.mc.state = .degraded) :
    (reportFault f s).mc.state = .degraded ∧ (reportFault f s).mc.lastFault = some f
      ∧ (reportFault f s).mc.rejoin = some Config.twoSeconds ∧ (reportFault f s).mc.counter = s.mc.counter
      ∧ (reportFault f s).re.record = s.re.record ∧ (reportFault f s).eventSet .lineTrouble = true := by
  rcases h with h | ⟨h, hf⟩ | h
  · simp [reportFault, h, memberToDegraded, Re.clearMarks]
  · simp [reportFault, h, hf, joiningToDegraded, Re.clearMarks]
  · simp [reportFault, h, degradedFault]

/-- A line-fault report keeps the round record, in every membership state. -/
@[simp] theorem reportFault_record (f : LineFault) (s : State) : (reportFault f s).re.record = s.re.record := by
  simp only [reportFault]
  (repeat' split) <;> simp [memberToDegraded, joiningToDegraded, degradedFault, Re.clearMarks]

/-! ## The line (R7, R8, R12, R13, R15) -/

/-- A stuck line found outside Silent and Stuck: released, no round, Stuck. -/
theorem stuckLineFound_spec (s : State) (h : s.lif.state ≠ .silent) (k : s.lif.state ≠ .stuck) :
    (stuckLineFound s).lif.state = .stuck ∧ (stuckLineFound s).lif.drive = false ∧ (stuckLineFound s).lif.idleRun = 0
      ∧ (stuckLineFound s).re.record = none := by
  simp [stuckLineFound, h, k, abandonRound, Lif.leave]

/-- A lost synchronisation: released, no round, Seeking with the idle run at 0. -/
theorem lostSync_spec (s : State) :
    (lostSync s).lif = { s.lif.leave .seeking with idleRun := 0 } ∧ (lostSync s).re.record = none := by
  simp [lostSync, abandonRound]

/-- A drive fault in the own start pulse: released, no round, Idle with the idle run at 0. -/
theorem pulseDriveFault_spec (s : State) :
    (pulseDriveFault s).lif = { s.lif.leave .idle with idleRun := 0, assertedRun := 0 }
      ∧ (pulseDriveFault s).re.record = none := by
  simp [pulseDriveFault, abandonRound]

/-- A report of the round closed leaves Closing, and nothing else is ended by it. -/
theorem closeRound_spec (s : State) :
    (s.lif.state ≠ .closing → closeRound s = s)
      ∧ (s.lif.state = .closing → (closeRound s).lif.state = .idle ∧ (closeRound s).re.record = none) := by
  constructor <;> intro h <;> simp [closeRound, h, setRecord]

/-- An asserted reading outside a round, before the line is stuck, moves the two runs alone. -/
theorem assertedReading_runs (s : State) (h : s.lif.assertedRun < 160) :
    assertedReading s = s.withLif { s.lif with idleRun := 0, assertedRun := s.lif.assertedRun + 1 } := by
  simp [assertedReading, Config.stuckPeriods, show ¬ 161 ≤ s.lif.assertedRun + 1 by omega]

end Sys2Proof.Machine
end

