-- ==== Sys2Proof/Tests/Slice0.lean ====
section
/-! SUPPORT. The writer's own tests: ill-formed commands that the check refuses, bytes written out from R197, one or two
steps of the commands on small states, and for every statement with hypotheses a state and operands that meet them. -/

namespace Sys2Proof.Test

open Sys2Proof.Machine

/-! ## Well-formedness and bytes -/

theorem test_round_stretch_refused : (Instr.round 161 [] true).wellFormed = false := by decide
theorem test_round_stretch_accepted : (Instr.round 160 [] true).wellFormed = true := by decide
theorem test_unknown_command_refused : (Instr.unknownCommand 0x11).wellFormed = false := by decide
theorem test_unknown_command_accepted : (Instr.unknownCommand 0x10).wellFormed = true := by decide
theorem test_short_section_refused : (Instr.writeConfigSection 1 [7, 0xFF, 0xFF]).wellFormed = false := by decide
theorem test_long_section_refused : (Instr.writeConfigSection 5 [1, 1, 1, 1, 1, 0, 0, 0]).wellFormed = false := by decide
theorem test_unnamed_section_body_refused : (Instr.writeConfigSection 9 [1]).wellFormed = false := by decide
theorem test_whole_section_accepted : (Instr.writeConfigSection 1 [7, 0xFF, 0xFF, 0x0F]).wellFormed = true := by decide

theorem test_decode_arm_timer :
    decodeLink [0x33, 0x01, 0x00, 0x14, 0x02, 0x01] = some (.armTimer 1 0x001402 1) := by decide
theorem test_decode_post_cause :
    decodeLink [0x31, 0x07, 0x62, 0x05, 0x18, 0x03] = some (.postCause 7 0x62 5 0x18 3) := by decide
theorem test_decode_write_section :
    decodeLink [0x28, 0x01, 0x07, 0xFF, 0x00, 0x0F] = some (.writeConfigSection 1 [0x07, 0xFF, 0x00, 0x0F]) := by decide
theorem test_decode_missing_argument : decodeLink [0x28, 0x01, 0x07, 0xFF, 0x00] = none := by decide
theorem test_decode_unknown : decodeLink [0x54] = some (.unknownCommand 0x54) := by decide
theorem test_decode_park : decodeLink [0x52] = some .park := by decide

/-! ## Small states -/

def after (o : Host.Outcome State Fault Refusal) : State :=
  match o with
  | .next s => s
  | .fault _ | .refused _ => .reset

/-- A store that passes Fix: station 7, the profile of the spec's worked example, one sense cause at level 3. -/
def store : Store :=
  { identity := [7, 0xFF, 0xFF, 0x0F]
    profile := [0x00, 0x20, 0x00, 0x11, 0x23, 0x45, 0x10, 0x06]
    causes := [0x72, 40, 24, 1] ++ List.replicate 24 0 ++ List.replicate 18 0
    attendance := [1, 0x33, 0xFF, 3] ++ List.replicate 21 0
    modul := [20, 50, 10, 30, 3, 1, 6]
    drain := [0, 50, 1, 64, 64, 32, 32, 16, 16, 8, 8, 2, 2, 2, 2, 2, 2, 2, 2, 8]
      ++ [192, 128, 96, 64, 32, 16, 0, 0, 100, 0, 200, 1, 0x90, 3, 0x20, 4, 0xB0, 6, 0x40, 9, 0x60]
      ++ [0, 26, 1, 0, 0x08, 0xFC, 10, 30, 1] }

def unfixed : State := State.reset.withPl { State.reset.pl with store := store }

/-- A fixed station in a membership state, its slots and wake timers loaded. -/
def fixedIn (m : Membership) : State :=
  let s := unfixed.withMc { unfixed.mc with state := m, number := 7, digest := 0x337C }
  s.withCt { s.ct with slots := store.loadSlots }

def member : State := fixedIn .member
def degraded : State := fixedIn .degraded
def inLif (l : LifState) (s : State) : State := s.withLif { s.lif with state := l }
def inModule (m : ModuleState) (s : State) : State := s.withMpc (s.mpc.moveTo m .a)
def inFlight (u : User) (s : State) : State := s.withMu { s.mu with clock := .running, inFlight := some u }

/-- The link ready: a transaction open and the fast clock Running. -/
def linked (s : State) : State :=
  (s.withPl { s.pl with txn := some .opened }).withMu { s.mu with clock := .running }

/-- A posted cause in slot 7. -/
def posted (c : CauseState) (m : CauseMode) (s : State) : State :=
  setSlot 7 { Cause.disabled with level := 3, mode := m, linger := 5, patience := 2, state := c } s

/-- A round record at the void bit of a round of type t. -/
def voidBit (role : Role) (t : RoundType) (results : List (Field × List Bool)) : RoundRecord :=
  { role := role, starter := false, named := none, rtype := some t, invalid := false
    seg := (layoutOf (some t) []).length - 1, bit := 0, begun := false, drives := false, value := [], lost := false, samples := []
    results := results, newLevels := [], known := [], mismatch := false, winner := role == .nonMember
    refillDriven := false, restoreDriven := false, holdDriven := 0, abandoned := false }

/-- A station in the void bit of a round. -/
def inVoidBit (r : RoundRecord) (s : State) : State := inLif .round (s.withRe { s.re with record := some r })

/-- A Join round that admits station 7: claim released, both digests 0x337C, count 5, an empty hold map. -/
def joinResults : List (Field × List Bool) :=
  [(.number, bitsOfNat 6 7), (.claim, [false]), (.digestMax, bitsOfNat 16 0x337C),
   (.digestMin, (bitsOfNat 16 0x337C).map (!·)), (.count, bitsOfNat 16 5), (.hold, bitsOfNat 7 0)]

/-! ## Steps -/

theorem test_step_runs_front :
    after (step (member.withPending [.linkHoldExpiry, .fix])) = member.withPending [.fix] := by decide
theorem test_idle_step_counts_a_period : (after (step State.reset)).time = 1 := by decide
theorem test_reset_low_idles : slowPeriod (after (exec .rstNLow .reset)) = (after (exec .rstNLow .reset)).withTime 1 := by
  decide

theorem test_digest_of_the_worked_example : store.digest = 0x337C := by decide
theorem test_store_is_sound : store.firstFaulty = 0 := by decide
theorem test_default_store_is_faulty : Store.defaults.firstFaulty = 1 := by decide
theorem test_fix : (after (exec .fix (linked unfixed))).mc.state = .joining
    ∧ (after (exec .fix (linked unfixed))).lif.state = .seeking
    ∧ (after (exec .fix (linked unfixed))).pl.txn = some (.taken [0xA1, 0]) := by decide
theorem test_fix_faulty : (after (exec .fix (linked .reset))).pl.txn = some (.taken [0xD4, 1]) := by decide
theorem test_cold_start : (after (exec .coldStart member)).mc = Mc.cold := by decide
theorem test_warm_start : (after (exec .warmStart member)).mc.digest = 0x337C
    ∧ (after (exec .warmStart member)).re.join.held = true := by decide
theorem test_start_offset : startOffset 7 = 152 ∧ startOffset 8 = 96 := by decide
theorem test_seeking_end : (after (exec .seekingEnd (inLif .seeking member))).lif.idleRun = 1536 := by decide
theorem test_stuck_line : (after (exec .stuckLine (inLif .idle member))).mc.lastFault = some .stuckLine := by decide
/-- The released reading after four of the own pulse is a check point (R7); the one after five is not. -/
theorem test_check_point_of_the_own_pulse : ∀ p ∈ [(4, Membership.degraded), (5, .member), (44, .degraded)],
    (after (exec .glitch (member.withLif
      { member.lif with state := .pulse, starter := true, stretch := p.1, driven := p.1 }))).mc.state = p.2 := by decide
theorem test_release_edge_is_the_first_period_of_the_gap :
    (after (exec (.round 48 [] false) (openRecord (inLif .pulse member)))).lif.period = 1
    ∧ (after (exec (.round 64 [] false) (openRecord (inLif .pulse member)))).lif.framing = false
    ∧ (after (exec (.round 65 [] false) (openRecord (inLif .pulse member)))).lif.framing = true := by decide
theorem test_record_stands_until_the_round_is_closed :
    (after (exec (.round 0 [false] false) (inVoidBit (voidBit .member .rest []) member))).re.record.isSome = true
    ∧ (after (exec (.round 0 [false] false) (inVoidBit (voidBit .member .rest []) member))).lif.state = .closing := by
  decide
/-- The type field of a listener: the third bit completes 1 0 0, at which a non-member stands aside (R29). -/
theorem test_non_member_stands_aside :
    (after (exec (.round 49 [false, true, false, false] false)
      (openRecord (inLif .pulse (fixedIn .joining))))).lif.state = .seeking := by decide
/-- A start seen in Closing with 4 readings of its stretch counted after an asserted void bit, and one in Idle. -/
theorem test_start_accepted_implies_its_readings :
    (after (exec .startAccepted (member.withLif
      { member.lif with state := .closing, stretch := 4, assertedRun := 12 }))).lif.assertedRun = 40
    ∧ (after (exec .startAccepted (inLif .closing member))).lif.assertedRun = 32
    ∧ (after (exec .startAccepted (member.withLif
      { member.lif with state := .idle, assertedRun := 100 }))).lif.assertedRun = 100 := by decide
theorem test_commit_counts :
    (after (exec (.round 0 [false] true) (inVoidBit (voidBit .member .rest []) member))).mc.counter = 1 := by decide
theorem test_void_counts :
    (after (exec (.round 0 [true] true) (inVoidBit (voidBit .member .rest []) member))).re.voids = 1 := by decide
theorem test_join_admits :
    (after (exec (.round 0 [false] true) (inVoidBit (voidBit .nonMember .join joinResults) (fixedIn .joining)))).mc.state
      = .member := by decide
theorem test_sense_edge : ((after (exec (.senseFilteredEdge 0 true) member)).slot 0).state = .pending := by decide
theorem test_post_and_release :
    ((after (exec (.postCause 7 0x62 5 2 0) (linked member))).slot 7).state = .pending
      ∧ ((after (exec (.releaseCause 7) (linked (posted .pending .level member)))).slot 7).state = .idle := by decide
theorem test_grace : (after (exec .graceExpiry
    (let s := inModule .parking member; s.withMpc { s.mpc with grace := some 1 }))).mpc.raila = false := by decide
/-- The full scales of R138's table, in microvolts and picoamperes, and the codes at, below and above them and zero. -/
theorem test_converter_scale :
    ∀ p ∈ [(Channel.vbat, 20475000, 5000), (.isnsL, 7998046875, 1953125), (.isnsH, 2047500000000, 500000000)], ∀ up,
      p.1.code p.2.1 up = 4095 ∧ p.1.code (p.2.1 + 1) up = 4095 ∧ p.1.code (p.2.1 - p.2.2) up = 4094
        ∧ p.1.code (p.2.1 - 1) up = (if up then 4095 else 4094) ∧ p.1.code p.2.2 up = 1
        ∧ p.1.code 1 up = (if up then 1 else 0) ∧ p.1.code 0 up = 0 ∧ p.1.code (-1) up = 0 := by decide
theorem test_conversion : (after (exec (.conversionEnd 500000000) (inFlight .drain member))).da.spent = 1024
    ∧ (after (exec (.conversionEnd 3000000000000) (inFlight .drain member))).da.window.head? = some 4095
    ∧ (after (exec (.conversionEnd (-1)) (inFlight .drain member))).da.spent = 0 := by decide
theorem test_clock_failure : (after (exec .clockSettleTimeout
    (member.withMu { member.mu with clock := .settling }))).eventSet .clockFault = true := by decide
theorem test_select_busy :
    (after (exec .hello (after (exec .linkSelect .reset)))).pl.txn = some (.refused 0xB2) := by decide
theorem test_settle_interval_holds_back :
    (after (exec .clockConfirmed (startAttempt member))).mu.clock = .settling
    ∧ (after (exec .clockConfirmed ((startAttempt .reset).withTime 17))).mu.clock = .running := by decide
theorem test_lso_of_a_transaction :
    (after (exec .linkSelect member)).lso 0 = some 0
    ∧ (after (exec (.unknownCommand 0x54) (after (exec .linkSelect member)))).lso 3 = some 0xE5
    ∧ member.lso 0 = none := by decide
theorem test_short_body_waits : (after (exec (.writeConfigSection 1 [7, 0, 0]) (linked .reset))).pl.txn = some .arguments
    ∧ (after (exec .hello (after (exec (.writeConfigSection 1 [7, 0, 0]) (linked .reset))))).pl.txn = some .arguments := by
  decide
theorem test_hello : (after (exec .hello (linked .reset))).pl.txn = some (.taken [0xA1]) := by decide
theorem test_park_refused : (after (exec .park (linked .reset))).pl.txn = some (.taken [0xC3]) := by decide
theorem test_status_record : State.reset.statusRecord = [0, 0, 0, 0, 0, 0, 0, 0, 0, 0, 0, 0, 0, 0, 2, 0, 0] := by decide
theorem test_start_census : (after (exec (.startCensus 7) (linked member))).cu.state = .running := by decide
theorem test_deselect_clears :
    (after (exec (.linkDeselect 3) ((raiseEvent .batteryLow member).withPl
      { (raiseEvent .batteryLow member).pl with clearing := 2, txn := some (.taken [0xA1, 0, 2]) }))).pl.events = 2
    ∧ (after (exec (.linkDeselect 3) ((raiseEvent .batteryLow member |>.withPins { member.pins with lcs := true }).withPl
      { (raiseEvent .batteryLow member).pl with clearing := 2, txn := some (.taken [0xA1, 0, 2]) }))).pl.events = 0 := by
  decide

/-! ## The hypotheses of the statements are met -/

def resetLowState : State := after (exec .rstNLow .reset)
def withTimer (s : State) : State := setTimer 0 { count := 1, reload := 9, periodic := true, running := true } s
def withCensus (c : CensusState) (s : State) : State := s.withCu { s.cu with state := c }
def excluded (n : Station) : Exclusion := { requester := n, level := 3, found := false, age := 1 }

/-- Every timer of a Member two counts before its end. -/
def counting : State :=
  let s := setTimer 0 { count := 2, reload := 9, periodic := true, running := true }
    (setSlot 7 { Cause.disabled with level := 3, state := .lingering, countdown := 2 } member)
  let s := (s.withMc { s.mc with rejoin := some 2 }).withEv { s.ev with heartbeat := some 2, settle := some 2 }
  let s := s.withMu { s.mu with batteryTimer := some 2, quietTimer := some 2, linkHold := 2 }
  let s := s.withCu { s.cu with exclusion := some { excluded 9 with age := 2 }, holdOff := 2 }
  (s.withMpc { s.mpc with quietDelay := some 2, grace := some 2, hello := some 2 }).withDa { s.da with phase := some 1022 }

/-- Sense input 0 filtered over 512 samples, n of them new. -/
def slowFilter (n : Nat) : State :=
  ((member.withPl { member.pl with store := { store with causes := List.replicate 28 0 ++ 3 :: List.replicate 17 0 } }).withPins
    { member.pins with sns := [true, false, false, false] }).withCt { member.ct with sense := [⟨false, n⟩] }

/-- The idle runs 31, 32, 95 and 1535 and the asserted runs 0 and 159 are where the clauses meet. -/
theorem test_meets_EmptyQueueStepIsOnePeriod : State.reset.pending = [] ∧ resetLowState.pins.rstN = false
    ∧ State.reset.pins.rstN = true ∧ State.reset.lif.state = .silent ∧ State.reset.lif.drive = false
    ∧ ∀ st ∈ [LifState.seeking, .idle, .stuck], ∀ run ∈ [31, 32, 95, 1535], ∀ b ∈ [true, false],
      ∃ s : State, s.pending = [] ∧ s.pins.rstN = true ∧ s.lif.state = st ∧ s.lif.drive = false ∧ s.lif.idleRun = run
        ∧ s.lif.assertedRun = 159 ∧ s.pins.wakePeers = b :=
  ⟨by decide, by decide, by decide, by decide, by decide, fun st _ run _ b _ =>
    ⟨(member.withLif { member.lif with state := st, drive := false, idleRun := run, assertedRun := 159 }).withPins
      { member.pins with wakePeers := b }, rfl, rfl, rfl, rfl, rfl, rfl, rfl⟩⟩

/-- Countdowns of 2, the last that the clauses count, and a filter of 512 samples before and at its last. -/
theorem test_meets_EmptyQueueStepIsOnePeriod_counts :
    (∃ u : State, (u.slot 7).state = .lingering ∧ 1 < (u.slot 7).countdown ∧ (u.timer 0).running = true
      ∧ 1 < (u.timer 0).count ∧ u.mc.rejoin = some 2 ∧ u.ev.heartbeat = some 2 ∧ u.ev.settle = some 2
      ∧ u.mu.batteryTimer = some 2 ∧ u.mu.quietTimer = some 2 ∧ u.cu.exclusion = some { excluded 9 with age := 2 }
      ∧ 1 < u.cu.holdOff ∧ 1 < u.mu.linkHold ∧ u.mpc.quietDelay = some 2 ∧ u.mpc.grace = some 2
      ∧ u.mpc.hello = some 2 ∧ u.da.phase = some 1022 ∧ 1023 < u.settings.samplePeriod)
    ∧ (member.pins.sns.getD 0 false = (member.ct.sense.getD 0 ⟨false, 0⟩).filtered)
    ∧ ∀ n ∈ [510, 511], ∃ u : State, u.pins.sns.getD 0 false ≠ (u.ct.sense.getD 0 ⟨false, 0⟩).filtered
      ∧ (u.ct.sense.getD 0 ⟨false, 0⟩).run = n ∧ u.settings.filterLength 0 = 512 := by
  exact ⟨⟨counting, by decide⟩, by decide, fun n h => ⟨slowFilter n, by revert n; decide, rfl, by revert n; decide⟩⟩

theorem test_meets_ResetPinHoldsTheBlocks : resetLowState.pins.rstN = false ∧ Instr.hello ≠ .coldStart
    ∧ Instr.hello ≠ .warmStart ∧ Instr.hello ≠ .rstNLow ∧ Instr.hello ≠ .linkSelect
    ∧ ∀ n, Instr.hello ≠ .linkDeselect n :=
  ⟨by decide, by decide, by decide, by decide, by decide, fun _ h => (nomatch h)⟩

theorem test_meets_EventOutOfPlaceChangesNothing :
    State.reset.lif.state ≠ .seeking ∧ State.reset.lif.state ≠ .idle ∧ State.reset.lif.state ≠ .pulse
      ∧ State.reset.lif.state ≠ .stuck ∧ State.reset.lif.state = .silent ∧ State.reset.mc.state ≠ .degraded
      ∧ State.reset.isLocal = false ∧ State.reset.ev.heartbeat = none ∧ State.reset.ev.settle = none
      ∧ State.reset.mpc.state ≠ .powering ∧ State.reset.mpc.state ≠ .parking ∧ State.reset.mpc.quietDelay = none
      ∧ State.reset.mu.clock ≠ .settling ∧ State.reset.mu.clock ≠ .running ∧ State.reset.mu.batteryTimer = none
      ∧ State.reset.mu.quietTimer = none ∧ State.reset.mu.inFlight = none ∧ State.reset.da.phase = none
      ∧ State.reset.cu.exclusion = none ∧ State.reset.re.rest.held = false ∧ State.reset.re.record = none
      ∧ (State.reset.timer 1).running = false ∧ (State.reset.slot 15).state ≠ .pending
      ∧ (State.reset.slot 15).state ≠ .lingering ∧ (State.reset.ct.sense.getD 3 ⟨false, 0⟩).filtered = false
      ∧ (openRecord (inLif .pulse member)).lif.state = .pulse ∧ (openRecord (inLif .pulse member)).re.record ≠ none
      ∧ degraded.isLocal = true ∧ degraded.mc.decisionDue = false := by decide

theorem test_meets_WarmStartGivesTheStartValues : State.reset.fixed = false ∧ member.fixed = true := by decide

theorem test_meets_StepKeepsTheSwitches : member.railsInv ∧ ∃ t, step member = .next t := ⟨by rfl, _, rfl⟩

theorem test_meets_StepKeepsTheTable : (member.withEv { member.ev with
      table := resuspend [learnedEntry store 3, learnedEntry store 6] }).tableInv ∧ ∃ t, step member = .next t :=
  ⟨⟨by decide, by decide, by decide⟩, _, rfl⟩

theorem test_meets_StepKeepsTheLine : (inLif .idle member).lineInv ∧ ∃ t, step (inLif .idle member) = .next t :=
  ⟨⟨by decide, by decide, by decide⟩, _, rfl⟩

theorem test_meets_StepKeepsTheCauses : member.causesInv ∧ ∃ t, step member = .next t := ⟨⟨by decide, by decide⟩, _, rfl⟩

theorem test_meets_StepKeepsTheCensus :
    (inVoidBit (voidBit .member .rest []) (member.withCu { member.cu with list := [9, 4] })).censusInv
      ∧ (inVoidBit (voidBit .nonMember .join []) (fixedIn .joining)).censusInv ∧ ∃ t, step member = .next t :=
  ⟨⟨⟨by decide, by decide, by decide⟩, by decide, fun _ h _ _ => by cases h; decide⟩,
    ⟨⟨by decide, by decide, by decide⟩, by decide, fun _ h _ _ => by cases h; decide⟩, _, rfl⟩

theorem test_meets_StepKeepsTheRanges : State.reset.rangesInv ∧ ∃ t, step State.reset = .next t :=
  ⟨⟨by decide, by decide, by decide, by decide, by decide, by decide, by decide, fun _ h => (nomatch h), by decide,
    fun _ h => (nomatch h)⟩, _, rfl⟩

theorem test_meets_LinkDecodeOfEncode : (Instr.writeConfigSection 1 [7, 0, 0, 1]).wellFormed = true
    ∧ encodeLink (.writeConfigSection 1 [7, 0, 0, 1]) = some [0x28, 1, 7, 0, 0, 1] := by decide

theorem test_meets_SeekingEndEntersIdle :
    (inLif .seeking member).pins.rstN = true ∧ (inLif .seeking member).lif.state = .seeking := by decide

def wanting : State := inLif .idle (raiseStatus member)

theorem test_meets_StartRequestDrivesThePulse : wanting.pins.rstN = true ∧ wanting.lif.state = .idle
    ∧ wanting.re.highestWant = some .status ∧ wanting.re.status.held = true ∧ wanting.mc.state = .member := by decide

/-- The check points of the own pulse end at the stretch of 44; 48 is past the pulse. -/
theorem test_meets_PulseSeenAndGlitch : (inLif .idle member).lif.state = .idle
    ∧ (inLif .pulse member).lif.state = .pulse ∧ (inLif .pulse member).re.record = none
    ∧ ¬ ((inLif .pulse member).lif.starter = true)
    ∧ ∀ n ∈ [4, 44], n < 48 ∧ n % 8 = 4
      ∧ ∃ s : State, s.lif.state = .pulse ∧ s.re.record = none ∧ s.lif.starter = true ∧ s.lif.stretch = n :=
  ⟨by decide, by decide, by decide, by decide, fun n h => ⟨by revert n; decide, by revert n; decide,
    member.withLif { member.lif with state := .pulse, starter := true, stretch := n }, rfl, rfl, rfl, rfl⟩⟩

/-- Stretches on both sides of a check point, of the pulse and of a stuck line. -/
theorem test_meets_StartAcceptedOpensTheRecord : (inLif .closing member).lif.state = .closing
    ∧ (inLif .closing (fixedIn .joining)).mc.state = .joining ∧ (inLif .pulse member).re.record = none
    ∧ ∀ n ∈ [35, 36, 44, 48, 64, 65, 160, 161], ∃ (s : State) (r : RoundRecord), s.pins.rstN = true
      ∧ s.lif.state = .pulse ∧ s.re.record = some r ∧ r.seg = 0 ∧ r.bit = 0 ∧ s.lif.starter = true
      ∧ n = max 32 s.lif.stretch :=
  ⟨by decide, by decide, by decide, fun n h =>
    ⟨(openRecord member).withLif { member.lif with state := .pulse, starter := true, stretch := n },
      _, rfl, rfl, rfl, rfl, rfl, rfl, by revert n; decide⟩⟩

theorem test_meets_StuckLineAndItsEnd : (inLif .idle member).lif.state ≠ .silent ∧ (inLif .idle member).lif.state ≠ .stuck
    ∧ (inLif .stuck degraded).lif.state = .stuck ∧ (inLif .idle degraded).mc.state = .degraded := by decide

/-- Every LIF state at the idle runs 31 and 32, the asserted runs 159 and 160, the stretches 30 and 31 and the periods
3, 4, 6 and 7, where the clauses meet. -/
theorem test_meets_AssertedReadingKeepsTheIdleRunAtZero :
    ∀ st ∈ [LifState.silent, .seeking, .idle, .pulse, .round, .closing, .stuck],
      ∀ i ∈ [31, 32], ∀ a ∈ [159, 160], ∀ n ∈ [30, 31], ∀ p ∈ [3, 4, 6, 7],
        ∃ s : State, s.pins.rstN = true ∧ s.lif.state = st ∧ s.lif.idleRun = i ∧ s.lif.assertedRun = a
          ∧ s.lif.stretch = n ∧ s.lif.period = p ∧ s.re.record = none ∧ s.mc.state = .member :=
  fun st _ i _ a _ n _ p _ => ⟨member.withLif
    { member.lif with state := st, idleRun := i, assertedRun := a, stretch := n, period := p },
    rfl, rfl, rfl, rfl, rfl, rfl, rfl, rfl⟩

theorem test_meets_RoundCommitsAtTheMember : ∀ t ∈ [RoundType.join, .status, .census, .rest],
    (inVoidBit (voidBit .member t []) member).re.record = some (voidBit .member t [])
      ∧ (voidBit .member t []).current = .void ∧ (voidBit .member t []).rtype = some t
      ∧ (voidBit .member t []).role = .member ∧ (voidBit .member t []).bit = 0
      ∧ (inVoidBit (voidBit .member t []) member).lif.state = .round
      ∧ (inVoidBit (voidBit .member t []) member).lif.framing = false
      ∧ (inVoidBit (voidBit .member t []) member).lif.period = 0 := by decide

/-- The clauses about slots, census and notices: an offered cause above the floor of grade 0, one at the floor of grade
7, a Running census whose level changes, a winning requester, and both notice bits. -/
theorem test_meets_RoundCommitsAtTheMember_status :
    ((offerCauses (posted .pending .momentary member)).slot 7).offered = true
      ∧ member.settings.floorOf 0 < ((posted .pending .momentary member).slot 7).level
      ∧ ((posted .held .momentary member).slot 7).holding = true
      ∧ ((posted .held .momentary member).slot 7).level ≤ member.settings.floorOf 7
      ∧ (withCensus .running member).cu.state = .running ∧ (withCensus .running member).cu.closeOwed = false
      ∧ ({ voidBit .member .census [] with winner := true } : RoundRecord).winner = true
      ∧ (∀ n ∈ [0, 1, 2, 3], (voidBit .member .status [(.notice, bitsOfNat 2 n)]).result .notice = n)
      ∧ (∀ c ∈ [0, 1, 63], (voidBit .member .census [(.candidate, bitsOfNat 6 c)]).result .candidate = c) := by decide

/-- A record in the middle of its round. -/
def midRound (r : RoundRecord) (seg bit : Nat) (drives : Bool) : RoundRecord :=
  { r with seg := seg, bit := bit, begun := true, drives := drives }

/-- Gap, type field, separator, hold map and confirm of a Status round, the type field of a round without a type, both
roles, at the periods 0 and 4 and the asserted run 152. -/
theorem test_meets_RoundVoidAtTheMember_bits :
    (∀ r ∈ [voidBit .member .status [], voidBit .nonMember .status []],
      (midRound r 0 0 false).current = .gap ∧ (midRound r 1 2 true).current = .field .typ
      ∧ (midRound r 2 0 false).current = .sep ∧ (midRound r 3 5 true).current = .field .hold
      ∧ 5 + 1 < Field.hold.width ∧ (midRound r 3 0 true).abandoned = false)
    ∧ (voidBit .nonMember .status []).role = .nonMember ∧ (∃ f, (midRound (voidBit .member .status []) 13 0 true).current
      = .confirm f ∧ 0 + 1 < f.width)
    ∧ natOfBits ([true, false] ++ [false]) = 4 ∧ natOfBits ([true, false] ++ [true]) ≠ 4
    ∧ ∀ p ∈ [0, 4], ∀ r : RoundRecord, ∃ s : State, s.pins.rstN = true ∧ s.lif.state = .round ∧ s.lif.period = p
      ∧ s.lif.assertedRun = 152 ∧ s.re.record = some r :=
  ⟨by decide, by decide, ⟨.hold, by decide⟩, by decide, by decide, fun p _ r =>
    ⟨(inVoidBit r member).withLif { member.lif with state := .round, period := p, assertedRun := 152 },
      rfl, rfl, rfl, rfl, rfl⟩⟩

/-- A round bit at the asserted run 159: each kind of part, the last bit of a field and one before it, a non-member that
reads the Status type, and void bits of a listener, of a follower without an outcome and of a Member. -/
theorem test_meets_AssertedReadingKeepsTheIdleRunAtZero_bits :
    (∀ r : RoundRecord, ∀ p ∈ [4, 7], ∀ b : Bool, ∃ s : State, s.pins.rstN = true ∧ s.mc.state = .member
      ∧ s.lif.state = .round ∧ s.lif.period = p ∧ s.lif.assertedRun = 159 ∧ s.lif.framing = b ∧ s.re.record = some r)
    ∧ (let r := voidBit .nonMember .status []
      (midRound r 0 0 false).current = .gap ∧ (midRound r 2 0 false).current = .sep
      ∧ (midRound r 1 1 true).current = .field .typ ∧ 1 + 1 < (midRound r 1 1 true).current.width
      ∧ ¬ 2 + 1 < (midRound r 1 2 true).current.width ∧ (midRound r 13 0 true).current = .confirm .hold
      ∧ r.role = .nonMember ∧ natOfBits [true, false, false] = 4 ∧ natOfBits [true, true, false] ≠ 4
      ∧ r.current = .void ∧ r.rtype ≠ some .join)
    ∧ (voidBit .member .rest []).role = .member ∧ (voidBit .member .rest []).abandoned = false :=
  ⟨fun r p _ b => ⟨(inVoidBit r member).withLif
    { member.lif with state := .round, period := p, assertedRun := 159, framing := b },
    rfl, rfl, rfl, rfl, rfl, rfl, rfl⟩, by decide⟩

/-- The first void and the fourth in a row, with the asserted run at 152. -/
theorem test_meets_RoundVoidAtTheMember :
    (inVoidBit (voidBit .member .rest []) member).re.voids = 0
      ∧ ∃ s : State, s.mc.state = .member ∧ s.lif.state = .round ∧ s.lif.assertedRun = 152 ∧ s.re.voids = 3
        ∧ s.re.record = some (voidBit .member .rest []) :=
  ⟨by decide, (inVoidBit (voidBit .member .rest []) (member.withRe { member.re with voids := 3 })).withLif
    { member.lif with state := .round, assertedRun := 152 }, by decide⟩

/-- A drive fault in the type field at its second and third bit, and at a void bit driven asserted. -/
theorem test_meets_RoundVoidAtTheMember_driveFaults :
    (∀ b ∈ [1, 2], ∃ (s : State) (r : RoundRecord), s.pins.rstN = true
      ∧ s.lif.state = .round ∧ s.lif.period = 4 ∧ s.re.record = some r
      ∧ r.current = .field .typ ∧ r.bit = b ∧ s.lif.drive = true ∧ r.role = .member ∧ r.abandoned = false)
    ∧ ∃ r : RoundRecord, r.current = .void ∧ (bitBegin (inVoidBit r member)).re.record.isSome = true
      ∧ (bitBegin (inVoidBit r member)).lif.drive = true ∧ (inVoidBit r member).lif.period = 0
      ∧ (after (exec (.round 0 [false] false) (inVoidBit r member))).lif.state = .idle
      ∧ (after (exec (.round 0 [false] false) (inVoidBit r member))).mc.lastFault = some .driveFault :=
  ⟨fun b _ => ⟨(inVoidBit (midRound (voidBit .member .status []) 1 b true) member).withLif
      { member.lif with state := .round, period := 4, drive := true },
      midRound (voidBit .member .status []) 1 b true, rfl, rfl, rfl, rfl, rfl, rfl, rfl, rfl, rfl⟩,
    { voidBit .member .rest [] with mismatch := true }, by decide⟩

theorem test_meets_JoinRoundAdmitsOrRefuses :
    (voidBit .nonMember .join joinResults).current = .void ∧ (voidBit .nonMember .join joinResults).winner = true
      ∧ (voidBit .nonMember .join joinResults).result .claim = 0
      ∧ BitVec.ofNat 16 ((voidBit .nonMember .join joinResults).result .digestMax) = (fixedIn .joining).mc.digest
      ∧ BitVec.ofNat 16 ((voidBit .nonMember .join joinResults).result .digestMin) = (fixedIn .joining).mc.digest
      ∧ (voidBit .nonMember .join []).result .digestMax ≠ degraded.mc.digest.toNat := by decide

theorem test_meets_StatusWantByMembership : member.mc.state = .member ∧ degraded.mc.state = .degraded
    ∧ (fixedIn .isolated).mc.state = .isolated ∧ (fixedIn .joining).mc.state = .joining := by decide

theorem test_meets_RejoinTimerRaisesTheJoinWant :
    ∃ s : State, s.pins.rstN = true ∧ s.mc.state = .degraded ∧ s.mc.rejoin ≠ none :=
  ⟨degraded.withMc { degraded.mc with rejoin := some 1 }, by decide⟩

theorem test_meets_LocalDecisionIsTheStationsOwn :
    (∃ s : State, s.isLocal = true ∧ s.mc.decisionDue = true ∧ s.mc.restDue = false ∧ s.pl.refill = true)
      ∧ ∃ s : State, s.isLocal = true ∧ s.mc.decisionDue = false ∧ s.mc.restDue = true :=
  ⟨⟨(raiseStatus degraded).withPl { degraded.pl with refill := true }, by decide⟩,
    ⟨degraded.withMc { degraded.mc with restDue := true }, by decide⟩⟩

theorem test_meets_NetworkTimersAskForRounds :
    (∃ s : State, s.pins.rstN = true ∧ s.mc.state = .member ∧ s.ev.heartbeat ≠ none ∧ s.ev.settle ≠ none)
      ∧ (∃ s : State, s.mc.state = .joining ∧ s.ev.settle ≠ none)
      ∧ (∃ s : State, s.isLocal = true ∧ s.mc.decisionDue = true ∧ s.ev.settle ≠ none)
      ∧ ∃ s : State, s.isLocal = true ∧ s.mc.decisionDue = false ∧ s.ev.settle ≠ none :=
  ⟨⟨member.withEv { member.ev with heartbeat := some 1, settle := some 1 }, by decide⟩,
    ⟨(fixedIn .joining).withEv { member.ev with settle := some 1 }, by decide⟩,
    ⟨(raiseStatus degraded).withEv { member.ev with settle := some 1 }, by decide⟩,
    ⟨degraded.withEv { member.ev with settle := some 1 }, by decide⟩⟩

/-- Slot 0 in a state and mode, its rising-edge input about to turn to `b`. -/
def sensed (c : CauseState) (m : CauseMode) (b : Bool) : State :=
  let s := member.withPl { member.pl with
    store := { store with causes := store.causes.take 28 ++ 4 :: List.replicate 17 0 } }
  let s := setSlot 0 { Cause.disabled with level := 3, mode := m, linger := 5, patience := 2, state := c } s
  s.withCt { s.ct with sense := [⟨!b, 0⟩, ⟨false, 0⟩, ⟨false, 0⟩, ⟨false, 0⟩] }

theorem test_meets_SenseEdgeTriggersItsSlot :
    member.ct.slots.length = 16 ∧ member.ct.sense.length = 4
      ∧ (member.ct.sense.getD 0 ⟨false, 0⟩).filtered ≠ true ∧ member.settings.edgeMatches 0 true = true
      ∧ (member.slot 0).state = .idle ∧ (member.slot 0).mode = .level ∧ (member.slot 1).state = .disabled
      ∧ ((trigger 0 member).slot 0).state = .pending
      ∧ ((setSlot 0 (member.slot 0).toLingering member).slot 0).state = .lingering
      ∧ true = member.settings.activeHigh 0 := by decide

/-- The slots that an edge leaves alone or whose linger it starts again: both modes, a falling edge that does not match a
rising trigger edge, and one that does match. -/
theorem test_meets_SenseEdgeTriggersItsSlot_stands :
    (∀ c ∈ [CauseState.idle, .pending, .held, .lingering], ∀ m ∈ [CauseMode.momentary, .level], ∀ b ∈ [true, false],
      (sensed c m b).ct.slots.length = 16 ∧ (sensed c m b).ct.sense.length = 4 ∧ ((sensed c m b).slot 0).state = c
        ∧ ((sensed c m b).slot 0).mode = m ∧ ((sensed c m b).ct.sense.getD 0 ⟨false, 0⟩).filtered ≠ b)
    ∧ (sensed .idle .level false).settings.edgeMatches 0 false = false
    ∧ (sensed .idle .level true).settings.edgeMatches 0 true = true
    ∧ (sensed .held .level true).settings.activeHigh 0 = true := by decide

/-- A held Level-mode cause whose source turns inactive. -/
theorem test_meets_SenseEdgeTriggersItsSlot_held :
    ∃ s : State, s.ct.slots.length = 16 ∧ s.ct.sense.length = 4 ∧ (s.ct.sense.getD 0 ⟨false, 0⟩).filtered ≠ false
      ∧ (s.slot 0).state = .held ∧ (s.slot 0).mode = .level ∧ false ≠ s.settings.activeHigh 0 :=
  ⟨(setSlot 0 { member.slot 0 with state := .held } member).withCt
    { (setSlot 0 { member.slot 0 with state := .held } member).ct with
      sense := [⟨true, 0⟩, ⟨false, 0⟩, ⟨false, 0⟩, ⟨false, 0⟩] }, by decide⟩

theorem test_meets_WakeTimerTriggersItsSlot :
    (withTimer member).ct.slots.length = 16 ∧ (withTimer member).ct.timers.length = 2
      ∧ ((withTimer member).timer 0).running = true ∧ ((withTimer member).slot 4).state = .disabled
      ∧ ((setSlot 4 { Cause.disabled with level := 1, state := .idle } (withTimer member)).slot 4).state = .idle
      ∧ ((setSlot 4 { Cause.disabled with level := 1, state := .lingering } (withTimer member)).slot 4).mode
        = .momentary := by decide

theorem test_meets_CountdownsEndTheirCause :
    ((posted .pending .level member).slot 7).state = .pending ∧ ((posted .pending .level member).slot 7).patience ≠ 0
      ∧ ((posted .pending .level member).slot 7).offered = false
      ∧ ((offerCauses (posted .pending .level member)).slot 7).offered = true
      ∧ ((posted .lingering .momentary member).slot 7).state = .lingering
      ∧ ((posted .lingering .momentary member).slot 7).rails = 0
      ∧ (posted .lingering .momentary degraded).isLocal = true := by decide

def powering : State :=
  let s := inModule .powering member
  s.withMpc { s.mpc with hello := some 1 }

def parking : State :=
  let s := inModule .parking member
  s.withMpc { s.mpc with grace := some 1 }

theorem test_meets_PoweringEndsInOn : powering.mpc.state = .powering ∧ powering.mpc.frozen = false
    ∧ powering.fixed = true ∧ powering.pins.rstN = true ∧ powering.mpc.hello ≠ none
    ∧ (linked powering).linkOpen = true ∧ (linked powering).mu.clock = .running := by decide

theorem test_meets_ParkingEndsInOff : parking.mpc.state = .parking ∧ parking.mpc.frozen = false
    ∧ parking.pins.rstN = true ∧ parking.mpc.grace ≠ none ∧ (linked parking).linkOpen = true
    ∧ (linked parking).mu.clock = .running := by decide

theorem test_meets_HelloAndParkOutOfPlace : (linked member).linkReady ∧ (linked member).mpc.state = .on
    ∧ (linked parking).linkReady ∧ (linked parking).mpc.state ≠ .powering
    ∧ (linked (powering.withMpc { powering.mpc with frozen := true })).linkReady := by
  simp only [State.linkReady]
  decide

theorem test_meets_ClearCutClearsTheCount : (linked .reset).linkReady ∧ (linked .reset).fixed = false
    ∧ (linked member).linkReady ∧ (linked member).fixed = true ∧ (linked member).mpc.state ≠ .cut
    ∧ ∃ s : State, s.linkReady ∧ s.fixed = true ∧ s.mpc.state = .cut := by
  simp only [State.linkReady]
  exact ⟨by decide, by decide, by decide, by decide, by decide,
    linked (member.withMpc { member.mpc with state := .cut }), by decide⟩

theorem test_meets_SchedulesRequestTheirConversions :
    ∃ s : State, s.pins.rstN = true ∧ s.fixed = true ∧ s.mu.batteryTimer ≠ none ∧ s.mu.quietTimer ≠ none
      ∧ s.mpc.quietDelay ≠ none ∧ s.da.phase ≠ none ∧ s.mu.reqDrain = false ∧ s.mu.clock = .stopped :=
  ⟨((member.withMu { member.mu with batteryTimer := some 1, quietTimer := some 1 }).withMpc
    { member.mpc with quietDelay := some 1 }).withDa { member.da with phase := some 1 }, by decide⟩

/-- A sample boundary that finds a drain sample pending. -/
theorem test_meets_SchedulesRequestTheirConversions_merged :
    ∃ s : State, s.pins.rstN = true ∧ s.fixed = true ∧ s.da.phase ≠ none ∧ s.mu.reqDrain = true :=
  ⟨(member.withMu { member.mu with reqDrain := true }).withDa { member.da with phase := some 0 }, by decide⟩

/-- An attempt begun in period 5 under a clock settle code, ClockFault asserted. -/
def settlingWith (code : Nat) : State :=
  (member.withMu { member.mu with clock := .settling, startTime := some 5, clockFault := true }).withPl
    { member.pl with store := { store with drain := List.replicate 49 0 ++ [BitVec.ofNat 8 code] } }

/-- The last period before the interval's end and the first after it, for each code. -/
theorem test_meets_ClockConfirmedRuns : ∀ p ∈ [(0, 17), (1, 33), (2, 66), (3, 132)],
    (∃ s : State, s.pins.rstN = true ∧ s.mu.clock = .settling ∧ s.mu.inFlight = none ∧ s.mu.clockFault = true
      ∧ s.mc.state = .member ∧ s.settings.clockSettleCode = p.1 ∧ s.mu.startTime = some 5 ∧ s.time = 5 + p.2)
    ∧ ∃ s : State, s.mu.clock = .settling ∧ s.settings.clockSettleCode = p.1 ∧ s.mu.startTime = some 5
      ∧ s.time < 5 + p.2 ∧ s.time = 4 + p.2 :=
  fun p h => ⟨⟨(settlingWith p.1).withTime (5 + p.2), rfl, rfl, rfl, rfl, rfl, by revert p; decide, rfl, rfl⟩,
    ⟨(settlingWith p.1).withTime (4 + p.2), rfl, by revert p; decide, rfl, by revert p; decide, rfl⟩⟩

theorem test_meets_ClockFailureAbortsEverything : (inFlight .drain member).pins.rstN = true
    ∧ (inFlight .drain member).mu.clock = .running ∧ (inFlight .drain member).mu.inFlight = some .drain
    ∧ (inFlight .battery member).mu.inFlight ≠ some .drain ∧ (inFlight .battery member).mu.reqDrain = false
    ∧ (startAttempt member).mu.clock = .settling ∧ (setTxn (some .arguments) member).pl.txn = some .arguments := by decide

theorem test_meets_LinkHoldRunsOut : member.mu.linkHold = 0
    ∧ ∃ s : State, s.pins.rstN = true ∧ 0 < s.mu.linkHold :=
  ⟨by decide, member.withMu { member.mu with linkHold := 1 }, by decide⟩

/-- The clauses of a conversion's code at their boundary inputs: zero, the first step, full scale, and 1 uV to either
side; and two codes that no conversion gives. -/
theorem test_meets_convertsTo :
    (∀ p ∈ [((-1 : Int), (0 : BitVec 12)), (0, 0), (1, 0), (1, 1), (5000, 1), (20474999, 4094), (20474999, 4095),
      (20475000, 4095), (20475001, 4095)], convertsTo 5000 p.1 p.2) ∧ ¬ convertsTo 5000 1 2 ∧ ¬ convertsTo 5000 0 1 := by
  refine ⟨fun p h => ?_, fun h => absurd (h.2.2.2 0 (by decide) (by decide) (by decide)) (by decide),
    fun h => absurd (h.1 (by decide)) (by decide)⟩
  have hc : ∃ up, Channel.vbat.code p.1 up = p.2 := by revert p; decide
  obtain ⟨up, hc⟩ := hc
  exact hc ▸ Channel.vbat.code_convertsTo p.1 up

theorem test_meets_DrainSampleIsEntered : (inFlight .drain member).pins.rstN = true
    ∧ (inFlight .drain member).fixed = true ∧ (inFlight .drain member).mu.inFlight = some .drain := by decide

/-- The two sides of the battery limit, 1 for this store. -/
theorem test_meets_BatteryCheckSetsBatteryLow : (inFlight .battery member).mu.inFlight = some .battery
    ∧ (0 : Nat) < (inFlight .battery member).settings.batteryLimit
    ∧ ¬ (inFlight .battery member).settings.batteryLimit < (inFlight .battery member).settings.batteryLimit
    ∧ (inFlight .battery member).mu.batteryLow = false := by decide

theorem test_meets_QuietCheckChargesItsTicks :
    ∃ s : State, s.pins.rstN = true ∧ s.mu.inFlight = some .quiet ∧ s.da.quietTicks = some 7 :=
  ⟨(inFlight .quiet member).withDa { member.da with quietTicks := some 7 }, by decide⟩

theorem test_meets_GradesAreTheLargestThatHold :
    0 < member.settings.allowance ∧ member.balance = member.settings.allowance
      ∧ member.settings.balanceThreshold 7 = 0
      ∧ (∀ g h : Grade, 1 ≤ g → g ≤ h → member.settings.balanceThreshold h ≤ member.settings.balanceThreshold g)
      ∧ (∀ g h : Grade, 1 ≤ g → g ≤ h → member.settings.rateThreshold g ≤ member.settings.rateThreshold h)
      ∧ (member.withDa { member.da with spent := member.settings.allowance }).balanceGradeNow = 7
      ∧ (member.withDa { member.da with filtered := 65535 }).rateGradeNow = 7 := by decide

theorem test_meets_CensusTimersLetAWaitingCensusRun :
    (∃ s : State, s.pins.rstN = true ∧ s.cu.exclusion ≠ none ∧ s.cu.state = .waiting ∧ s.cu.holdOff = 0)
      ∧ (∃ s : State, 0 < s.cu.holdOff ∧ s.cu.state = .waiting ∧ s.otherCensus = false) ∧ member.cu.holdOff = 0
      ∧ ∃ s : State, s.pins.rstN = true ∧ s.cu.state = .running ∧ s.cu.level = 3
        ∧ s.cu.exclusion = some (excluded s.mc.number) :=
  ⟨⟨member.withCu { member.cu with state := .waiting, exclusion := some (excluded 9) }, by decide⟩,
    ⟨member.withCu { member.cu with state := .waiting, holdOff := 1 }, by decide⟩, by decide,
    ⟨member.withCu { member.cu with state := .running, level := 3, exclusion := some (excluded 7) }, by decide⟩⟩

/-- The levels 0, 1, 7 and 8 are where the clauses meet. -/
theorem test_meets_CensusCommandsAnswer : (linked member).linkReady ∧ (linked member).mc.state = .member
    ∧ (linked member).cu.closeOwed = false ∧ (1 : Byte) ≠ 0 ∧ (7 : Byte).toNat ≤ 7 ∧ 7 < (8 : Byte).toNat
    ∧ (linked (fixedIn .joining)).mc.state ≠ .member
    ∧ (linked (withCensus .running member)).linkReady ∧ (linked (withCensus .waiting member)).cu.state = .waiting
    ∧ ∃ s : State, s.linkReady ∧ s.mc.state = .member ∧ s.cu.exclusion = some (excluded 9)
      ∧ (excluded 9).requester ≠ s.mc.number := by
  simp only [State.linkReady]
  exact ⟨by decide, by decide, by decide, by decide, by decide, by decide, by decide, by decide, by decide,
    linked (member.withCu { member.cu with exclusion := some (excluded 9) }), by decide⟩

def selected (s : State) : State := s.withPins { s.pins with lcs := true }

/-- A read of three bytes, clocked two bytes and three. -/
theorem test_meets_SelectAndDeselect : (selected member).pins.lcs = true ∧ member.pins.lcs = false
    ∧ member.mpc.raila = true ∧ (inModule .off member).mpc.raila = false
    ∧ (inModule .off (selected member)).pins.lcs = true
    ∧ ([0xA1, 0, 2] : List Byte).length ≤ 3 ∧ 2 < ([0xA1, 0, 2] : List Byte).length := by decide

theorem test_meets_UntakenCommandsAreRefused : (linked member).linkOpen = true ∧ linkCommandOf 0x10 = none
    ∧ member.linkOpen = false ∧ (after (exec .linkSelect member)).linkOpen = true
    ∧ (after (exec .linkSelect member)).mu.clock ≠ .running ∧ (selected member).mpc.raila = true
    ∧ (selected member).pins.lcs = true := by decide

theorem test_meets_ReadsAnswerWithTheirRecords : (linked member).linkReady ∧ (linked member).fixed = true
    ∧ (linked .reset).linkReady ∧ (linked .reset).fixed = false ∧ (selected member).mpc.raila = true
    ∧ (selected member).pins.lcs = true := by
  simp only [State.linkReady]
  decide

theorem test_meets_ReadConfigSectionAnswersTheBody : (linked member).linkReady ∧ 6 < (7 : Byte).toNat := by
  simp only [State.linkReady]
  decide

theorem test_meets_WriteConfigSectionReplacesTheBody :
    (linked .reset).linkReady ∧ (Instr.writeConfigSection 1 [7, 0, 0, 1]).wellFormed = true ∧ bodyLength 1 ≠ none
      ∧ (linked .reset).fixed = false ∧ (linked member).linkReady ∧ (linked member).fixed = true
      ∧ bodyLength 7 = none ∧ (Instr.writeConfigSection 7 []).wellFormed = true
      ∧ bodyLength 1 = some 4 ∧ ([7, 0, 0] : List Byte).length < 4 := by
  simp only [State.linkReady]
  decide

theorem test_meets_FixEntersJoining : (linked unfixed).linkReady ∧ (linked unfixed).fixed = false
    ∧ (linked unfixed).pl.store.firstFaulty = 0 ∧ (linked unfixed).lif.state = .silent
    ∧ (linked .reset).pl.store.firstFaulty ≠ 0 ∧ (linked member).fixed = true := by
  simp only [State.linkReady]
  decide

/-- The sections of the sound store pass one by one, and each fails when a value leaves its range by one step: station 0,
heartbeat code 17, linger 0, nine rows, quiet delay code 26, shift 16. -/
theorem test_meets_FixEntersJoining_sections :
    (store.identitySound ∧ store.profileSound ∧ store.causesSound ∧ store.attendanceSound ∧ store.moduleSound
      ∧ store.drainSound)
    ∧ ¬ { store with identity := [0x00, 0xFF, 0xFF, 0x0F] }.identitySound
    ∧ ¬ { store with profile := [0x00, 0x20, 0x00, 0x11, 0x23, 0x45, 0x11, 0x06] }.profileSound
    ∧ ¬ { store with causes := [0x72, 0, 24, 1] ++ List.replicate 42 0 }.causesSound
    ∧ ¬ { store with attendance := 9 :: List.replicate 24 0 }.attendanceSound
    ∧ ¬ { store with modul := [20, 50, 26, 30, 3, 1, 6] }.moduleSound
    ∧ ¬ { store with drain := store.drain.set 19 16 }.drainSound := by
  simp only [Store.identitySound, Store.profileSound, Store.causesSound, Store.attendanceSound, Store.moduleSound,
    Store.drainSound]
  exact ⟨⟨by decide, by decide, by decide, by decide, by decide, by decide⟩, by decide, by decide, by decide, by decide,
    by decide, by decide⟩

theorem test_meets_DigestIsTheOnesComplementSum : (0xFFFE : Half).toNat + (1 : Half).toNat < 65536
    ∧ 65536 ≤ (0xFFFF : Half).toNat + (1 : Half).toNat := by decide

/-- Slots 6, 7, 15 and 16 are where the clauses meet. -/
theorem test_meets_PostCauseTriggersItsSlot : (linked member).linkReady ∧ (linked member).ct.slots.length = 16
    ∧ (6 : Byte).toNat < 7 ∧ 7 ≤ (7 : Byte).toNat ∧ (15 : Byte).toNat ≤ 15 ∧ 15 < (16 : Byte).toNat
    ∧ causeLevel 0x62 ≠ 0 ∧ causeLevel 0x1F = 0 ∧ (linked .reset).fixed = false ∧ (linked member).fixed = true
    ∧ (member.slot 7).state = .disabled
    ∧ ∀ c ∈ [CauseState.held, .pending, .lingering], ∀ m ∈ [CauseMode.level, .momentary],
      ((posted c m (linked member)).slot 7).state = c ∧ ((posted c m (linked member)).slot 7).mode = m := by
  simp only [State.linkReady]
  decide

theorem test_meets_ReleaseCauseGoesIdle : (linked member).linkReady ∧ (linked member).ct.slots.length = 16
    ∧ (6 : Byte).toNat < 7 ∧ 15 < (16 : Byte).toNat ∧ ((linked member).slot 7).state = .disabled
    ∧ ((posted .held .level (linked member)).slot 7).state ≠ .disabled
    ∧ ((posted .idle .level (linked member)).slot 7).state = .idle := by
  simp only [State.linkReady]
  decide

theorem test_meets_ArmTimerLoadsTheTimer : (linked member).linkReady ∧ (linked member).ct.timers.length = 2
    ∧ (1 : Byte).toNat ≤ 1 ∧ 1 < (2 : Byte).toNat ∧ (linked member).fixed = true ∧ (linked .reset).fixed = false := by
  simp only [State.linkReady]
  decide

theorem test_meets_NoticeRequestsAreHeld : (linked .reset).fixed = false ∧ (linked member).linkReady
    ∧ (linked member).fixed = true ∧ (linked degraded).isLocal = true
    ∧ (linked (fixedIn .joining)).mc.state = .joining := by
  simp only [State.linkReady]
  decide

theorem test_meets_RejoinByMembership : (linked (fixedIn .isolated)).linkReady
    ∧ (linked (fixedIn .isolated)).mc.state = .isolated ∧ (linked (fixedIn .isolated)).lif.state = .silent
    ∧ (linked degraded).mc.state = .degraded ∧ (linked member).mc.state = .member := by
  simp only [State.linkReady]
  decide

end Sys2Proof.Test
end

namespace Sys2Proof.Machine

/-! ## The line invariant (R1, R3, R4) -/

/-- The membership states in which the LIF may leave Silent (R4). -/
def Membership.onLine (m : Membership) : Prop := m ≠ .unconfigured ∧ m ≠ .isolated

/-- What the line invariant says while RST_N is high: the drive is released outside Pulse and Round, and the LIF is
Silent in Unconfigured and in Isolated. -/
def State.lineOk (s : State) : Prop :=
  (s.lif.state ≠ .pulse → s.lif.state ≠ .round → s.lif.drive = false) ∧ (s.lif.state ≠ .silent → s.mc.state.onLine)

theorem lineInv_iff (s : State) : s.lineInv ↔ s.lineOk ∧ (s.pins.rstN = false → s.lif.state = .silent) := by
  simp only [State.lineInv, State.lineOk, Membership.onLine]
  grind

/-- Where the station is on the line, only the drive value counts. -/
theorem lineOk_of_onLine {s : State} (hm : s.mc.state.onLine)
    (hd : s.lif.state ≠ .pulse → s.lif.state ≠ .round → s.lif.drive = false) : s.lineOk := ⟨hd, fun _ => hm⟩

/-- The line invariant speaks of the LIF and the membership state alone. -/
theorem lineOk_congr {s t : State} (hl : t.lif = s.lif) (hm : t.mc.state = s.mc.state) (h : s.lineOk) : t.lineOk := by
  simpa [State.lineOk, hl, hm] using h

theorem State.lineOk.onLine {s : State} (h : s.lineOk) (hs : s.lif.state ≠ .silent) : s.mc.state.onLine := h.2 hs

theorem reportFault_onLine {f : LineFault} {s : State} (h : s.mc.state.onLine) : (reportFault f s).mc.state.onLine := by
  obtain ⟨hu, hi⟩ := h
  cases hm : s.mc.state with
  | unconfigured => exact absurd hm hu
  | isolated => exact absurd hm hi
  | member => simp [reportFault_spec f s (.inl hm), Membership.onLine]
  | degraded => simp [reportFault_spec f s (.inr (.inr hm)), Membership.onLine]
  | joining =>
    by_cases hf : f = .lostSync
    · simp [reportFault, hm, hf, Membership.onLine]
    · simp [reportFault_spec f s (.inr (.inl ⟨hm, hf⟩)), Membership.onLine]

/-! ### Line faults -/

theorem lostSync_lineOk {s : State} (h : s.mc.state.onLine) : (lostSync s).lineOk := by
  refine lineOk_of_onLine (reportFault_onLine (by simpa using h)) ?_
  simp [lostSync_spec, Lif.leave]

theorem pulseDriveFault_lineOk {s : State} (h : s.mc.state.onLine) : (pulseDriveFault s).lineOk := by
  refine lineOk_of_onLine (reportFault_onLine (by simpa using h)) ?_
  simp [pulseDriveFault_spec, Lif.leave]

theorem stuckLineFound_lineOk {s : State} (h : s.lineOk) : (stuckLineFound s).lineOk := by
  by_cases hs : s.lif.state = .silent ∨ s.lif.state = .stuck
  · simpa [stuckLineFound, hs] using h
  · rw [not_or] at hs
    have spec := stuckLineFound_spec s hs.1 hs.2
    refine lineOk_of_onLine ?_ fun _ _ => spec.2.1
    simp only [stuckLineFound, hs, or_self, if_false]
    exact reportFault_onLine (by simpa using h.onLine hs.1)

theorem driveFault_lineOk {s : State} (h : s.mc.state.onLine) : (driveFault s).lineOk :=
  lineOk_of_onLine (reportFault_onLine (by simpa using h)) (by simp [driveFault])

/-! ### Rounds -/

theorem bitBegin_lif (s : State) : (bitBegin s).lif = { s.lif with drive := (bitBegin s).lif.drive } := by
  simp only [bitBegin]
  (repeat' split) <;> simp

theorem bitBegin_lineOk {s : State} (h : s.lineOk) (hr : s.lif.state = .round) : (bitBegin s).lineOk := by
  refine lineOk_of_onLine (by simpa using h.onLine (by simp [hr])) ?_
  rw [bitBegin_lif]
  simp [hr]

theorem bitSample_lineOk {x : Bool} {s : State} (h : s.mc.state.onLine) (hr : s.lif.state = .round) :
    (bitSample x s).lineOk := by
  have stays : ∀ t : State, t.mc = s.mc → t.lif.state = .round → t.lineOk := fun t hm ht =>
    lineOk_of_onLine (hm ▸ h) (by simp [ht])
  simp only [bitSample]
  split
  · exact stays _ rfl hr
  · split
    · exact iteInduction (fun _ => lostSync_lineOk h) fun _ => stays _ (by simp) (by simp [hr])
    · refine iteInduction (fun _ => iteInduction (fun _ => lostSync_lineOk h) fun _ => ?_) fun _ => ?_
      · exact stays _ (by simp) (by simp [hr])
      · exact stays _ (by simp) (by simp [hr])
    all_goals exact iteInduction (fun _ => driveFault_lineOk (by simpa using h)) fun _ => stays _ (by simp) (by simp [hr])

theorem admitStation_state (c : Half) (m : HoldMap) (s : State) : (admitStation c m s).mc.state = .member := by
  simp [admitStation]

/-- A refused station is Isolated and Silent, its line released (R44). -/
theorem refuse_spec (f : LineFault) (b : Bool) (s : State) : (refuse f b s).mc.state = .isolated
    ∧ (refuse f b s).lif = { s.lif with state := .silent, drive := false, idleRun := 0, assertedRun := 0 } := by
  simp only [refuse]
  split <;> simp

theorem judgeJoin_lineOk {q : Bool} {a b c : Half} {m : HoldMap} {s : State} (hd : s.lif.drive = false) :
    (judgeJoin q a b c m s).lineOk := by
  have refused : ∀ f d, (refuse f d s).lineOk := fun f d => by simp [State.lineOk, refuse_spec]
  simp only [judgeJoin]
  (repeat' split)
  · exact refused _ _
  · exact lineOk_of_onLine (by simp [admitStation_state, Membership.onLine]) (by simp [hd])
  · exact refused _ _

theorem commitRound_lineOk {r : RoundRecord} {s : State} (h : s.mc.state.onLine) (hd : s.lif.drive = false) :
    (commitRound r s).lineOk := by
  have stands : ∀ t : State, t.mc.state = s.mc.state → t.lif = s.lif → t.lineOk := fun t hm hl =>
    lineOk_of_onLine (hm ▸ h) (by simp [hl, hd])
  simp only [commitRound]
  split
  · exact stands _ (by simp) (by simp)
  · exact stands _ (by simp) (by simp)
  · exact stands _ (by simp) (by simp)
  · simp only [commitJoin]
    split
    · exact stands _ (by simp) (by simp)
    · exact judgeJoin_lineOk (by simpa using hd)
  · exact stands _ (by simp) (by simp)

theorem voidRound_onLine {s : State} (h : s.mc.state.onLine) : (voidRound s).mc.state.onLine := by
  simp only [voidRound]
  split
  · simpa using h
  · exact reportFault_onLine (by simpa using h)

theorem closeRound_lineOk {s : State} (h : s.lineOk) : (closeRound s).lineOk := by
  simp only [closeRound]
  split
  next hc => exact lineOk_of_onLine (by simpa using h.onLine (by simp [hc])) (by simp [h.1, hc])
  · exact h

theorem endOfVoid_lineOk {r : RoundRecord} {s : State} (h : s.mc.state.onLine) : (endOfVoid r s).lineOk := by
  simp only [endOfVoid]
  (repeat' split)
  · exact closeRound_lineOk (lineOk_of_onLine (by simpa using h) (by simp [Lif.leave]))
  · exact lineOk_of_onLine (voidRound_onLine (by simpa using h)) (by simp [Lif.leave])
  · exact commitRound_lineOk (by simpa using h) (by simp [Lif.leave])

theorem bitEnd_lineOk {s : State} (h : s.mc.state.onLine) (hr : s.lif.state = .round) : (bitEnd s).lineOk := by
  have stays : ∀ t : State, t.mc = s.mc → t.lif.state = .round → t.lineOk := fun t hm ht =>
    lineOk_of_onLine (hm ▸ h) (by simp [ht])
  simp only [bitEnd]
  (repeat' split)
  · exact stays _ rfl hr
  · exact stays _ (by simp) (by simp [hr])
  · exact endOfVoid_lineOk (by simpa using h)
  · exact lineOk_of_onLine (by simpa using h) (by simp [standAside, Lif.leave])
  · exact stays _ (by simp) (by simp [hr])
  all_goals exact stays _ (by simp) (by simp [hr])

theorem watchBit_lineOk {x : Bool} {n : Nat} {s : State} (h : s.lineOk) : (watchBit x n s).lineOk := by
  have counted : ∀ run, (s.withLif { s.lif with assertedRun := run }).lineOk := fun run => by
    simpa [State.lineOk] using h
  exact iteInduction (fun _ => stuckLineFound_lineOk (counted _)) fun _ => counted _

theorem finishBit_lineOk {x : Bool} {s : State} (h : s.lineOk) : (finishBit x s).lineOk := by
  simp only [finishBit]
  split
  · split
    next hr => exact bitEnd_lineOk ((watchBit_lineOk h).onLine (by simp [hr])) hr
    · exact watchBit_lineOk h
  · exact h

theorem runBit_lineOk (x : Bool) (s : State) (h : s.lineOk) : (runBit x s).lineOk := by
  refine iteInduction (motive := State.lineOk) (fun hr => ?_) fun _ => h
  have begun : (if s.lif.period = 0 then bitBegin s else s).lineOk :=
    iteInduction (fun _ => bitBegin_lineOk h hr) fun _ => h
  exact iteInduction
    (fun hw => finishBit_lineOk (bitSample_lineOk ((watchBit_lineOk begun).onLine (by simp [hw])) hw))
    fun _ => watchBit_lineOk begun

/-! ### The pulse and the period watch -/

theorem releaseEdge_lineOk {n : Nat} {s : State} (h : s.lineOk) (hp : s.lif.state = .pulse) :
    (releaseEdge n s).lineOk := by
  simp only [releaseEdge]
  split
  · exact stuckLineFound_lineOk h
  · refine lineOk_of_onLine (by simpa using h.onLine (by simp [hp])) ?_
    rw [State.withLif_lif, bitBegin_lif]
    simp

theorem pulseEnds_lineOk {n : Nat} {s : State} (h : s.lineOk) (hp : s.lif.state = .pulse) : (pulseEnds n s).lineOk := by
  have hm := h.onLine (by simp [hp])
  simp only [pulseEnds]
  (repeat' split)
  · exact pulseDriveFault_lineOk hm
  · exact releaseEdge_lineOk h hp
  · exact lineOk_of_onLine (by simpa using hm) (by simp [glitchEnds, Lif.leave])

theorem followRound_lineOk {n : Nat} {xs : List Bool} {s : State} (h : s.lineOk) : (followRound n xs s).lineOk := by
  have edge : (if s.lif.state = .pulse ∧ s.re.record.isSome then pulseEnds (max n s.lif.stretch) s else s).lineOk :=
    iteInduction (fun hp => pulseEnds_lineOk h hp.1) fun _ => h
  exact runBits_induct _ State.lineOk runBit_lineOk xs (iteInduction (fun _ => finishBit_lineOk edge) fun _ => edge)

theorem roundEffect_lineOk {n : Nat} {xs : List Bool} {b : Bool} {s : State} (h : s.lineOk) :
    (roundEffect n xs b s).lineOk := by
  have followed : ∀ p, ((followRound n xs s).withPins p).lineOk := fun p =>
    lineOk_congr (by simp) (by simp) (followRound_lineOk (n := n) (xs := xs) h)
  simp only [roundEffect]
  split
  · exact closeRound_lineOk (followed _)
  · exact followed _

@[simp] theorem followRound_frame (n : Nat) (xs : List Bool) (s : State) :
    (followRound n xs s).pins = s.pins ∧ (followRound n xs s).time = s.time ∧ (followRound n xs s).pending = s.pending
      ∧ (followRound n xs s).pl.store = s.pl.store := by
  simp only [followRound]
  (repeat' split) <;> simp

@[simp] theorem roundEffect_frame (n : Nat) (xs : List Bool) (b : Bool) (s : State) :
    (roundEffect n xs b s).pins = { s.pins with
        wakePeers := s.pins.wakePeers && (followRound n xs s).lif.state == .stuck }
      ∧ (roundEffect n xs b s).time = s.time ∧ (roundEffect n xs b s).pending = s.pending
      ∧ (roundEffect n xs b s).pl.store = s.pl.store := by
  simp only [roundEffect]
  split <;> simp

theorem startIsAccepted_lineOk {s : State} (h : s.mc.state.onLine) (hp : s.lif.state = .pulse) :
    (startIsAccepted s).lineOk :=
  lineOk_of_onLine (by simpa using h) (by simp [startIsAccepted, hp])

theorem startRequest_lineOk {f : Option (Fin 6)} {s : State} (h : s.lineOk) : (startRequest f s).lineOk := by
  simp only [startRequest]
  split
  · split
    next hi =>
      have hm := h.onLine (by simp [hi])
      split
      · exact lineOk_of_onLine (by simpa using hm) (by simp [pulseBegins])
      · exact pulseDriveFault_lineOk (by simpa using hm)
    · exact h
  · exact h

theorem stretchReaches_lineOk {s : State} (h : s.lineOk) : (stretchReaches s).lineOk := by
  simp only [stretchReaches]
  split
  next hp =>
    split
    · exact startIsAccepted_lineOk (h.onLine (by simp [hp])) hp
    · exact h
  next hi => exact startIsAccepted_lineOk (by simpa using h.onLine (by simp [hi])) (by simp [receiverPulse])
  next hc => exact lostSync_lineOk (by simpa using h.onLine (by simp [hc]))
  all_goals exact h

theorem assertedReading_lineOk {s : State} (h : s.lineOk) : (assertedReading s).lineOk := by
  have counted : ∀ run, (s.withLif { s.lif with idleRun := 0, assertedRun := run }).lineOk := fun run => by
    simpa [State.lineOk] using h
  simp only [assertedReading]
  split
  · exact stuckLineFound_lineOk (counted _)
  · exact counted _

theorem releasedReading_lineOk {s : State} (h : s.lineOk) : (releasedReading s).lineOk := by
  simpa [State.lineOk, releasedReading] using h

theorem receiverPulse_lineOk {run : Nat} {s : State} (h : s.mc.state.onLine) : (receiverPulse run s).lineOk :=
  lineOk_of_onLine (by simpa using h) (by simp [receiverPulse])

theorem seekingEnds_lineOk {s : State} (h : s.lineOk) (hs : s.lif.state = .seeking) : (seekingEnds s).lineOk :=
  lineOk_of_onLine (by simpa using h.onLine (by simp [hs])) (by simp [seekingEnds, h.1, hs])

theorem stuckClears_lineOk {s : State} (h : s.lineOk) (hs : s.lif.state = .stuck) : (stuckClears s).lineOk :=
  lineOk_of_onLine (by simpa using h.onLine (by simp [hs])) (by simp [stuckClears, h.1, hs])

theorem watchSeeking_lineOk {x : Bool} {s : State} (h : s.lineOk) (hs : s.lif.state = .seeking) :
    (watchSeeking x s).lineOk := by
  simp only [watchSeeking]
  (repeat' split)
  · exact assertedReading_lineOk h
  · exact seekingEnds_lineOk (releasedReading_lineOk h) (by simp [releasedReading, hs])
  · exact releasedReading_lineOk h

theorem watchIdle_lineOk {x : Bool} {s : State} (h : s.lineOk) (hs : s.lif.state = .idle) : (watchIdle x s).lineOk := by
  simp only [watchIdle]
  (repeat' split)
  · exact receiverPulse_lineOk (h.onLine (by simp [hs]))
  · exact assertedReading_lineOk h
  · exact releasedReading_lineOk h

theorem stretchGrows_lineOk {s : State} (h : s.lineOk) (hp : s.lif.state = .pulse) : (stretchGrows s).lineOk := by
  have hm := h.onLine (by simp [hp])
  have grown : ∀ l : Lif, l.state = .pulse → (s.withLif l).lineOk := fun l hl =>
    lineOk_of_onLine (by simpa using hm) (by simp [hl])
  exact iteInduction (fun _ => stuckLineFound_lineOk (grown _ hp)) fun _ =>
    iteInduction (fun _ => startIsAccepted_lineOk (by simpa using hm) hp) fun _ => grown _ hp

theorem watchRound_lineOk {x : Bool} {s : State} (h : s.lineOk) : (watchRound x s).lineOk := by
  have watched := watchBit_lineOk (x := x) (n := 1) h
  refine iteInduction (motive := State.lineOk) (fun hr => ?_) fun _ => watched
  have hm := watched.onLine (by simp [hr])
  have sampled : ∀ v : State, v.mc = (watchBit x 1 s).mc → v.lif.state = .round →
      (if v.lif.period = Config.samplePeriodOfBit then bitSample x v else v).lineOk := fun v hv hs =>
    iteInduction (fun _ => bitSample_lineOk (hv ▸ hm) hs) fun _ => lineOk_of_onLine (hv ▸ hm) (by simp [hs])
  have sampled := sampled (let w := watchBit x 1 s; w.withLif { w.lif with period := w.lif.period + 1 }) rfl hr
  exact iteInduction (fun he => bitEnd_lineOk (sampled.onLine (by rw [he.1]; decide)) he.1) fun _ => sampled

theorem watchClosing_lineOk {x : Bool} {s : State} (h : s.lineOk) : (watchClosing x s).lineOk := by
  have grown : (s.withLif { s.lif with stretch := s.lif.stretch + 1 }).lineOk := by simpa [State.lineOk] using h
  have read := assertedReading_lineOk grown
  simp only [watchClosing]
  (repeat' split)
  next hc => exact lostSync_lineOk (read.onLine (by simp [hc]))
  · exact read
  · exact releasedReading_lineOk h

theorem watchLine_lineOk {x : Bool} {s : State} (h : s.lineOk) : (watchLine x s).lineOk := by
  simp only [watchLine]
  split
  · exact h
  next hs => exact watchSeeking_lineOk h hs
  next hs => exact watchIdle_lineOk h hs
  next hs =>
    simp only [watchPulse]
    split
    · exact stretchGrows_lineOk h hs
    · exact pulseEnds_lineOk h hs
  · exact watchRound_lineOk h
  · exact watchClosing_lineOk h
  next hs =>
    split
    · exact assertedReading_lineOk h
    · exact stuckClears_lineOk h hs

theorem driveForPeriod_lineOk {s : State} (h : s.lineOk) : (driveForPeriod s).lineOk := by
  simp only [driveForPeriod]
  split
  next hp => exact lineOk_of_onLine (by simpa using h.onLine (by simp [hp])) (by simp [hp])
  next hr =>
    split
    · exact bitBegin_lineOk h hr
    · exact h
  all_goals exact h

theorem requestDue_lineOk {s : State} (h : s.lineOk) : (requestDue s).lineOk := by
  simp only [requestDue]
  split
  · exact startRequest_lineOk h
  · exact h

/-! ### The step -/

theorem periodCounts_keep_lif : ∀ f ∈ periodCounts, ∀ t, (f t).lif = t.lif ∧ (f t).mc.state = t.mc.state := by
  simp [periodCounts]

theorem tickCounts_keep_lif : ∀ f ∈ tickCounts, ∀ t, (f t).lif = t.lif ∧ (f t).mc.state = t.mc.state := by
  simp [tickCounts]

theorem slowPeriod_lineOk {s : State} (h : s.lineOk) : (slowPeriod s).lineOk := by
  refine slowPeriod_induct s State.lineOk (fun due f hf t ht => ?_) (by simpa [State.lineOk] using h)
  have framed : (f t).lif = t.lif ∧ (f t).mc.state = t.mc.state → (f t).lineOk := fun k => lineOk_congr k.1 k.2 ht
  simp only [periodBegins, periodEnds, List.cons_append, List.mem_append, List.mem_cons, List.not_mem_nil, or_false] at hf
  rcases hf with rfl | ((hf | rfl | rfl | rfl) | hf) | rfl | rfl | rfl | rfl | rfl | rfl | rfl
  · exact closeRound_lineOk ht
  · exact framed (periodCounts_keep_lif f hf t)
  · exact framed (by simp)
  · exact requestDue_lineOk ht
  · exact driveForPeriod_lineOk ht
  · exact framed (tickCounts_keep_lif f hf t)
  · exact watchLine_lineOk ht
  all_goals exact framed (by simp)

/-! ### Commands behind their gates -/

/-- A property that a gated effect keeps while RST_N is high is kept by the command. -/
theorem gated_keeps {P : State → Prop} {s t : State} {f : State → State} (he : gated s f = .next t) (h : P s)
    (hf : s.pins.rstN = true → P (f s)) : P t := by
  obtain rfl := Host.Outcome.next.inj he
  exact iteInduction hf fun _ => h

/-- A property that the transaction does not touch, and that the owner's answer keeps, is kept by a link command. -/
theorem linkCommand_keeps {P : State → Prop} {s t : State} {owner : State → Answer} (he : linkCommand owner s = .next t)
    (h : P s) (hx : ∀ x u, P u → P (setTxn x u)) (ho : s.linkOpen = true → P (owner s).state) : P t := by
  obtain rfl := Host.Outcome.next.inj he
  refine iteInduction (fun hl => iteInduction (fun _ => ?_) fun _ => hx _ _ h) fun _ => h
  exact iteInduction (motive := P) (fun _ => hx _ _ (ho hl)) fun _ => ho hl

theorem linkOpen_rstN {s : State} (h : s.linkOpen = true) : s.pins.rstN = true := by
  simp only [State.linkOpen, Bool.and_eq_true] at h
  exact h.1.1

/-! ### What the owners answer -/

section Answers

variable (s : State)

theorem writeSection_state (i : Byte) (b : List Byte) : (writeSection i b s).state = s
    ∨ s.fixed = false ∧ (writeSection i b s).state = s.withPl { s.pl with store := s.pl.store.write i b } := by
  simp only [writeSection]
  (repeat' split) <;> simp_all [outOfRange, wrongState, done]

theorem fixAnswer_state : (fixAnswer s).state = s ∨ s.fixed = false ∧ (fixAnswer s).state = fixConfiguration s := by
  simp only [fixAnswer]
  (repeat' split) <;> simp_all [wrongState]

theorem postAnswer_state (i c l p r : Byte) : (postAnswer i c l p r s).state = s
    ∨ (postAnswer i c l p r s).state = trigger i.toNat s
    ∨ (postAnswer i c l p r s).state = trigger i.toNat (setSlot i.toNat (postedEntry c l p r) s) := by
  simp only [postAnswer]
  (repeat' split) <;> simp [outOfRange, wrongState, done]

theorem releaseAnswer_state (i : Byte) : (releaseAnswer i s).state = s
    ∨ (releaseAnswer i s).state = releaseSlot i.toNat s := by
  simp only [releaseAnswer]
  (repeat' split) <;> simp [outOfRange, wrongState, done]

theorem armAnswer_state (n : Byte) (c : BitVec 24) (m : Byte) : (armAnswer n c m s).state = s
    ∨ (armAnswer n c m s).state = setTimer n.toNat (armedTimer c.toNat (m == 1) (s.timer n.toNat)) s := by
  simp only [armAnswer]
  (repeat' split) <;> simp [outOfRange, wrongState, done]

theorem startCensusAnswer_state (l : Byte) : (startCensusAnswer l s).state = s
    ∨ (startCensusAnswer l s).state = censusBegin (Fin.ofNat 8 l.toNat) s := by
  simp only [startCensusAnswer]
  (repeat' split) <;> simp [outOfRange, wrongState, done]

theorem abandonAnswer_state : (abandonAnswer s).state = s
    ∨ (abandonAnswer s).state = s.withCu { s.cu with state := .abandoned, closeOwed := true }
    ∨ (abandonAnswer s).state = s.withCu { s.cu with state := .abandoned } := by
  simp only [abandonAnswer]
  split <;> simp [wrongState, done]

theorem helloAnswer_state : (helloAnswer s).state = s ∨ (helloAnswer s).state = powerUpDone s := by
  simp only [helloAnswer]
  (repeat' split) <;> simp [wrongState, done]

theorem parkAnswer_state : (parkAnswer s).state = s ∨ (parkAnswer s).state = parkDone s := by
  simp only [parkAnswer]
  (repeat' split) <;> simp [wrongState, done]

theorem clearCutAnswer_state : (clearCutAnswer s).state = s ∨ (clearCutAnswer s).state = evaluateNeed (leaveCut s)
    ∨ (clearCutAnswer s).state = setLoud 0 s := by
  simp only [clearCutAnswer]
  (repeat' split) <;> simp [wrongState, done]

theorem refillAnswer_state : (refillAnswer s).state = s
    ∨ (refillAnswer s).state = raiseStatus (s.withPl { s.pl with refill := true }) := by
  simp only [refillAnswer]
  split <;> simp [wrongState, done]

theorem restoreAnswer_state : (restoreAnswer s).state = s
    ∨ (restoreAnswer s).state = raiseStatus (s.withPl { s.pl with restore := true }) := by
  simp only [restoreAnswer]
  split <;> simp [wrongState, done]

theorem rejoinAnswer_state : (rejoinAnswer s).state = s ∨ (rejoinAnswer s).state = enterJoining s
    ∨ (rejoinAnswer s).state = raiseJoin (s.withMc { s.mc with rejoin := none }) := by
  simp only [rejoinAnswer]
  split <;> simp [wrongState, done]

end Answers

/-! ### The line invariant along a step -/

theorem lineInv_congr {s t : State} (hl : t.lif = s.lif) (hm : t.mc.state = s.mc.state)
    (hp : t.pins.rstN = s.pins.rstN) (h : s.lineInv) : t.lineInv := by
  simpa [State.lineInv, hl, hm, hp] using h

theorem State.lineInv.lineOk {s : State} (h : s.lineInv) : s.lineOk := ((lineInv_iff s).1 h).1

/-- While RST_N is high the line invariant is that of the LIF and the membership state. -/
theorem State.lineOk.lineInv {s : State} (h : s.lineOk) (hr : s.pins.rstN = true) : s.lineInv :=
  (lineInv_iff s).2 ⟨h, by simp [hr]⟩

theorem setTxn_lineInv (x : Option Txn) (s : State) (h : s.lineInv) : (setTxn x s).lineInv :=
  lineInv_congr (by simp) (by simp) (by simp) h

theorem enterJoining_lif (s : State) : (enterJoining s).lif
    = if s.lif.state = .silent then { s.lif with state := .seeking, idleRun := 0 } else s.lif := by
  simp only [enterJoining]
  split <;> simp_all

@[simp] theorem enterJoining_state (s : State) : (enterJoining s).mc.state = .joining := by
  simp only [enterJoining]
  split <;> simp

theorem enterJoining_lineOk {s : State} (h : s.lineOk) : (enterJoining s).lineOk := by
  refine lineOk_of_onLine (by simp [Membership.onLine]) ?_
  rw [enterJoining_lif]
  split
  next hs => simp [h.1, hs]
  · exact h.1

theorem fixConfiguration_lineOk {s : State} (h : s.lineOk) : (fixConfiguration s).lineOk := by
  simp only [fixConfiguration]
  refine lineOk_congr (by simp) (by simp) (enterJoining_lineOk
    (s := s.withMc { s.mc with number := s.pl.store.stationNumber, digest := s.pl.store.digest }) ?_)
  simpa [State.lineOk] using h

theorem coldState_lineInv (s : State) : (coldState s).lineInv :=
  State.lineOk.lineInv (by simp [State.lineOk, coldState, Lif.cold]) rfl

theorem warmState_lineInv (s : State) : (warmState s).lineInv :=
  State.lineOk.lineInv (by simp [State.lineOk, warmState, Lif.cold, Mc.warm, Membership.onLine]) (by simp [warmState])

theorem resetLow_lineInv (s : State) : (resetLow s).lineInv := by
  simp [State.lineInv, resetLow, Lif.leave]

theorem awaitArguments_lineInv {s : State} (h : s.lineInv) : (awaitArguments s).lineInv :=
  lineInv_congr (by simp) (by simp) (by simp) h

theorem linkAssert_rstN (s : State) : (linkAssert s).pins.rstN = s.pins.rstN := by
  simp only [linkAssert]
  (repeat' split) <;> simp

theorem linkRelease_rstN (n : Nat) (s : State) : (linkRelease n s).pins.rstN = s.pins.rstN := by
  simp only [linkRelease]
  (repeat' split) <;> simp

theorem setWakePeers_lineOk {b : Bool} {s : State} (h : s.lineOk) : (setWakePeers b s).lineOk :=
  lineOk_congr (by simp) (by simp) h

/-- Every command keeps the line invariant. -/
theorem exec_lineInv {c : Instr} {s t : State} (h : s.lineInv) (he : exec c s = .next t) : t.lineInv := by
  have high : ∀ {f : State → State}, gated s f = .next t →
      (s.pins.rstN = true → (f s).lineOk ∧ (f s).pins.rstN = s.pins.rstN) → t.lineInv := fun he hf =>
    gated_keeps he h fun hr => (hf hr).1.lineInv ((hf hr).2.trans hr)
  have framed : ∀ {f : State → State}, gated s f = .next t →
      (f s).lif = s.lif ∧ (f s).mc.state = s.mc.state ∧ (f s).pins.rstN = s.pins.rstN → t.lineInv := fun he hf =>
    gated_keeps he h fun _ => lineInv_congr hf.1 hf.2.1 hf.2.2 h
  have linked : ∀ {owner : State → Answer}, linkCommand owner s = .next t →
      (owner s).state.lif = s.lif ∧ (owner s).state.mc.state = s.mc.state ∧ (owner s).state.pins = s.pins →
      t.lineInv := fun he ho =>
    linkCommand_keeps he h setTxn_lineInv fun _ => lineInv_congr ho.1 ho.2.1 (by rw [ho.2.2]) h
  have hl := h.lineOk
  cases c with
  | coldStart => exact Host.Outcome.next.inj he ▸ coldState_lineInv s
  | warmStart =>
    obtain rfl := Host.Outcome.next.inj he
    exact iteInduction (fun _ => warmState_lineInv s) fun _ => coldState_lineInv s
  | rstNLow => exact Host.Outcome.next.inj he ▸ resetLow_lineInv s
  | seekingEnd =>
    refine high he fun _ => ⟨?_, by split <;> simp [setWakePeers]⟩
    exact iteInduction (fun hs => setWakePeers_lineOk (seekingEnds_lineOk hl hs)) fun _ => hl
  | startRequest f => exact high he fun _ => ⟨startRequest_lineOk hl, by simp⟩
  | startPulseSeen =>
    refine high he fun _ => ⟨?_, by split <;> simp [setWakePeers]⟩
    exact iteInduction (fun hs => setWakePeers_lineOk (receiverPulse_lineOk (hl.onLine (by simp [hs])))) fun _ => hl
  | startAccepted => exact high he fun _ => ⟨stretchReaches_lineOk hl, by simp⟩
  | glitch =>
    refine high he fun _ => ⟨?_, by split <;> simp [setWakePeers]⟩
    exact iteInduction (fun hs => setWakePeers_lineOk (pulseEnds_lineOk hl hs.1)) fun _ => hl
  | round n xs b =>
    refine high he fun _ => ⟨iteInduction (fun _ => roundEffect_lineOk hl) fun _ => hl, by split <;> simp⟩
  | stuckLine =>
    simp only [exec, execStuckLine] at he
    refine high he fun _ => ⟨?_, by split <;> simp [setWakePeers]⟩
    exact iteInduction (fun _ => hl) fun _ => setWakePeers_lineOk (stuckLineFound_lineOk hl)
  | stuckLineCleared =>
    refine high he fun _ => ⟨?_, by split <;> simp [setWakePeers]⟩
    exact iteInduction (fun hs => setWakePeers_lineOk (stuckClears_lineOk hl hs)) fun _ => hl
  | assertedPeriodWatchReading =>
    simp only [exec, execAssertedPeriodWatchReading] at he
    exact high he fun _ => ⟨watchLine_lineOk (driveForPeriod_lineOk hl), by simp⟩
  | rejoinTimerExpiry | localDecision | wakeTimerExpiry | patienceExpiry | lingerExpiry | heartbeatExpiry
  | settleExpiry | helloTimerExpiry | graceExpiry | quietDelayExpiry | linkHoldExpiry | batteryTimerExpiry
  | quietIntervalExpiry | conversionEnd | sampleBoundary | exclusionAgeOut | holdOffEnd =>
    exact framed he (by simp)
  | senseFilteredEdge k b =>
    simp only [exec, execSenseFilteredEdge] at he
    exact framed he (by simp)
  | clockConfirmed | clockSettleTimeout | clockOutOfTolerance => exact framed he (by split <;> simp)
  | linkSelect =>
    exact Host.Outcome.next.inj he ▸ lineInv_congr (by simp) (by simp) (linkAssert_rstN s) h
  | linkDeselect n =>
    exact Host.Outcome.next.inj he ▸ lineInv_congr (by simp) (by simp) (linkRelease_rstN n s) h
  | unknownCommand b =>
    obtain rfl := Host.Outcome.next.inj he
    exact iteInduction (fun _ => setTxn_lineInv _ s h) fun _ => h
  | readStationStatus | readCauseTable | readEpisodeTable | readDrainRecord =>
    exact linked he (by simp [reads])
  | readCensus => exact linked he (by split <;> simp [reads, wrongState])
  | readAndClearEvents => exact linked he (by simp [reads])
  | readConfigSection => exact linked he (by split <;> simp [reads, outOfRange])
  | writeConfigSection i b =>
    simp only [exec, execWriteConfigSection] at he
    have written : ∀ b', (writeSection i b' s).state.lif = s.lif ∧ (writeSection i b' s).state.mc.state = s.mc.state
        ∧ (writeSection i b' s).state.pins = s.pins := fun b' => by
      rcases writeSection_state s i b' with hs | ⟨-, hs⟩ <;> simp [hs]
    split at he
    · exact linked he (written _)
    · split at he
      · exact linked he (written _)
      · exact Host.Outcome.next.inj he ▸ awaitArguments_lineInv h
  | fix =>
    refine linkCommand_keeps he h setTxn_lineInv fun ho => ?_
    rcases fixAnswer_state s with hs | ⟨-, hs⟩ <;> rw [hs]
    · exact h
    · exact (fixConfiguration_lineOk hl).lineInv (by simpa using linkOpen_rstN ho)
  | postCause i c l p r => exact linked he (by rcases postAnswer_state s i c l p r with hs | hs | hs <;> simp [hs])
  | releaseCause i => exact linked he (by rcases releaseAnswer_state s i with hs | hs <;> simp [hs])
  | armTimer n c m => exact linked he (by rcases armAnswer_state s n c m with hs | hs <;> simp [hs])
  | startCensus l => exact linked he (by rcases startCensusAnswer_state s l with hs | hs <;> simp [hs])
  | abandonCensus => exact linked he (by rcases abandonAnswer_state s with hs | hs | hs <;> simp [hs])
  | hello => exact linked he (by rcases helloAnswer_state s with hs | hs <;> simp [hs])
  | park => exact linked he (by rcases parkAnswer_state s with hs | hs <;> simp [hs])
  | clearCut => exact linked he (by rcases clearCutAnswer_state s with hs | hs | hs <;> simp [hs])
  | requestRefill => exact linked he (by rcases refillAnswer_state s with hs | hs <;> simp [hs])
  | requestRestore => exact linked he (by rcases restoreAnswer_state s with hs | hs <;> simp [hs])
  | rejoin =>
    refine linkCommand_keeps he h setTxn_lineInv fun ho => ?_
    rcases rejoinAnswer_state s with hs | hs | hs <;> rw [hs]
    · exact h
    · exact (enterJoining_lineOk hl).lineInv (by simpa using linkOpen_rstN ho)
    · exact lineInv_congr (by simp) (by simp) (by simp) h

/-- Settles O12. -/
theorem stepKeepsTheLine : Obligations.StepKeepsTheLine := by
  intro s t h he
  simp only [step] at he
  split at he
  · obtain rfl := Host.Outcome.next.inj he
    cases hr : s.pins.rstN with
    | true => exact (slowPeriod_lineOk h.lineOk).lineInv (by simpa using hr)
    | false => simpa [slowPeriod, hr] using lineInv_congr (by simp) (by simp) (by simp) h
  · exact exec_lineInv (lineInv_congr (by simp) (by simp) (by simp) h) he

end Sys2Proof.Machine

namespace Sys2Proof.Machine

/-! ## The ranges of the counts (R2, R5, R38, R125, R133, R152, R169, R170) -/

/-- The drain account's part of the ranges (R152). -/
def Da.inRange (d : Da) : Prop :=
  d.window.length = 16 ∧ d.filtered ≤ 65535 ∧ d.spent ≤ Config.spentMax
    ∧ ∀ n, d.quietTicks = some n → n ≤ Config.countMax

theorem Da.inRange.congr {d e : Da} (h : d.inRange) (hw : e.window = d.window) (hf : e.filtered = d.filtered)
    (hs : e.spent = d.spent) (hq : e.quietTicks = d.quietTicks) : e.inRange := by
  simpa only [Da.inRange, hw, hf, hs, hq] using h

/-- The census unit's part of the ranges (R169, R170, R172). -/
def Cu.inRange (c : Cu) : Prop := c.holdOff ≤ Config.twoSeconds ∧ ∀ e, c.exclusion = some e → e.age ≤ Config.twoSeconds

/-- The ranges, block by block. -/
structure State.ranges (s : State) : Prop where
  idleRun : s.lif.idleRun ≤ Config.idleRunMax
  voids : s.re.voids < Config.voidRun
  loud : s.mpc.loud ≤ 7
  linkHold : s.mu.linkHold ≤ Config.linkHoldPeriods
  da : s.da.inRange
  cu : s.cu.inRange

theorem rangesInv_iff (s : State) : s.rangesInv ↔ s.ranges := by
  constructor
  · rintro ⟨h1, h2, h3, h4, h5, h6, h7, h8, h9, h10⟩
    exact ⟨h1, h2, h3, h4, ⟨h5, h6, h7, h8⟩, ⟨h9, h10⟩⟩
  · rintro ⟨h1, h2, h3, h4, ⟨h5, h6, h7, h8⟩, ⟨h9, h10⟩⟩
    exact ⟨h1, h2, h3, h4, h5, h6, h7, h8, h9, h10⟩

/-- The ranges speak of these parts alone. -/
theorem ranges_congr {s t : State} (h : s.ranges) (hc : t.lif.idleRun = s.lif.idleRun ∧ t.re.voids = s.re.voids
    ∧ t.mpc.loud = s.mpc.loud ∧ t.mu.linkHold = s.mu.linkHold ∧ t.da = s.da ∧ t.cu = s.cu) : t.ranges := by
  obtain ⟨h1, h2, h3, h4, h5, h6⟩ := hc
  exact ⟨h1 ▸ h.idleRun, h2 ▸ h.voids, h3 ▸ h.loud, h4 ▸ h.linkHold, h5 ▸ h.da, h6 ▸ h.cu⟩

theorem ranges_withLif {s : State} {x : Lif} (h : s.ranges) (hx : x.idleRun ≤ Config.idleRunMax) :
    (s.withLif x).ranges := ⟨hx, h.voids, h.loud, h.linkHold, h.da, h.cu⟩

theorem ranges_withRe {s : State} {x : Re} (h : s.ranges) (hx : x.voids < Config.voidRun) : (s.withRe x).ranges :=
  ⟨h.idleRun, hx, h.loud, h.linkHold, h.da, h.cu⟩

theorem ranges_withRe_zero {s : State} {x : Re} (h : s.ranges) (hx : x.voids = 0) : (s.withRe x).ranges :=
  ranges_withRe h (hx ▸ by decide)

theorem ranges_withMpc {s : State} {x : Mpc} (h : s.ranges) (hx : x.loud ≤ 7) : (s.withMpc x).ranges :=
  ⟨h.idleRun, h.voids, hx, h.linkHold, h.da, h.cu⟩

theorem ranges_withMu {s : State} {x : Mu} (h : s.ranges) (hx : x.linkHold ≤ Config.linkHoldPeriods) :
    (s.withMu x).ranges := ⟨h.idleRun, h.voids, h.loud, hx, h.da, h.cu⟩

theorem ranges_withDa {s : State} {x : Da} (h : s.ranges) (hx : x.inRange) : (s.withDa x).ranges :=
  ⟨h.idleRun, h.voids, h.loud, h.linkHold, hx, h.cu⟩

theorem ranges_withCu {s : State} {x : Cu} (h : s.ranges) (hx : x.inRange) : (s.withCu x).ranges :=
  ⟨h.idleRun, h.voids, h.loud, h.linkHold, h.da, hx⟩

/-! ### Wants -/

theorem wantsOnly_voids {s t : State} (h : wantsOnly s t) : t.re.voids = s.re.voids := by rw [h.2.1]

@[simp] theorem raiseStatus_voids (s : State) : (raiseStatus s).re.voids = s.re.voids :=
  wantsOnly_voids (raiseStatus_wantsOnly s)

@[simp] theorem raiseRest_voids (s : State) : (raiseRest s).re.voids = s.re.voids := by
  simp only [raiseRest]
  split <;> simp

@[simp] theorem raiseCensus_voids (s : State) : (raiseCensus s).re.voids = s.re.voids := by
  simp only [raiseCensus]
  split <;> simp

@[simp] theorem raiseJoin_voids (s : State) : (raiseJoin s).re.voids = s.re.voids := by
  simp only [raiseJoin]
  split <;> simp

@[simp] theorem withdrawCensus_voids (s : State) : (withdrawCensus s).re.voids = s.re.voids := rfl

section Ranges

variable {s : State}

theorem raiseEvent_ranges (e : Event) (h : s.ranges) : (raiseEvent e s).ranges := ranges_congr h (by simp)

theorem raiseStatus_ranges (h : s.ranges) : (raiseStatus s).ranges := ranges_congr h (by simp)

theorem raiseRest_ranges (h : s.ranges) : (raiseRest s).ranges := ranges_congr h (by simp)

theorem raiseCensus_ranges (h : s.ranges) : (raiseCensus s).ranges := ranges_congr h (by simp)

theorem raiseJoin_ranges (h : s.ranges) : (raiseJoin s).ranges := ranges_congr h (by simp)

theorem withdrawCensus_ranges (h : s.ranges) : (withdrawCensus s).ranges := ranges_congr h (by simp)

/-! ### The drain account -/

theorem regrade_ranges (h : s.ranges) : (regrade s).ranges := ranges_withDa h (h.da.congr rfl rfl rfl rfl)

theorem recomputeGrades_ranges (h : s.ranges) : (recomputeGrades s).ranges :=
  iteInduction (fun _ => regrade_ranges h) fun _ => raiseStatus_ranges (raiseEvent_ranges _ (regrade_ranges h))

theorem charge_ranges (n : Nat) (h : s.ranges) : (charge n s).ranges := by
  obtain ⟨hw, hf, -, hq⟩ := h.da
  have charged : ∀ b, ({ s.da with spent := min (s.da.spent + n) Config.spentMax, exhausted := b } : Da).inRange :=
    fun b => ⟨hw, hf, Nat.min_le_right .., hq⟩
  exact iteInduction (fun _ => raiseEvent_ranges _ (ranges_withDa h (charged _))) fun _ => ranges_withDa h (charged _)

theorem applyFilter_ranges (h : s.ranges) : (applyFilter s).ranges :=
  ranges_withDa h ⟨h.da.1, Nat.min_le_right .., h.da.2.2⟩

theorem enterWindow_ranges (x : BitVec 12) (h : s.ranges) : (enterWindow x s).ranges :=
  ranges_withDa h ⟨by simp [h.da.1], h.da.2⟩

theorem sampleEntry_ranges (x : BitVec 12) (h : s.ranges) : (sampleEntry x s).ranges :=
  iteInduction (fun _ => recomputeGrades_ranges (applyFilter_ranges (charge_ranges _ (enterWindow_ranges x h)))) fun _ => h

theorem missedSample_ranges (h : s.ranges) : (missedSample s).ranges := sampleEntry_ranges _ h

theorem quietCharge_ranges (q : Nat) (h : s.ranges) : (quietCharge q s).ranges := by
  have restarted : ∀ t : State, t.ranges → (t.withDa { t.da with quietTicks := some 0 }).ranges := fun t ht => by
    obtain ⟨hw, hf, hs, -⟩ := ht.da
    exact ranges_withDa ht ⟨hw, hf, hs, by simp⟩
  simp only [quietCharge]
  split
  · exact recomputeGrades_ranges (restarted _ (charge_ranges _ h))
  · exact h

theorem drainRailOn_ranges (h : s.ranges) : (drainRailOn s).ranges := by
  obtain ⟨hw, hf, hs, -⟩ := h.da
  exact ranges_withDa h ⟨hw, hf, hs, by simp⟩

theorem drainRailOff_ranges (h : s.ranges) : (drainRailOff s).ranges := by
  obtain ⟨-, -, hs, -⟩ := h.da
  exact recomputeGrades_ranges (ranges_withDa h ⟨by simp, by simp, hs, by simp⟩)

theorem refill_ranges (h : s.ranges) : (refill s).ranges := by
  obtain ⟨hw, hf, -, hq⟩ := h.da
  exact recomputeGrades_ranges (ranges_withDa h ⟨hw, hf, by simp, hq⟩)

theorem countQuietTicks_ranges (h : s.ranges) : (countQuietTicks s).ranges := by
  obtain ⟨hw, hf, hs, -⟩ := h.da
  refine ranges_withDa h ⟨hw, hf, hs, fun n hn => ?_⟩
  obtain ⟨m, -, rfl⟩ := Option.map_eq_some_iff.1 hn
  exact Nat.min_le_right ..

/-! ### The measurement unit -/

@[simp] theorem setRequest_linkHold (m : Mu) (u : User) (b : Bool) : (m.setRequest u b).linkHold = m.linkHold := by
  cases u <;> rfl

theorem startAttempt_ranges (h : s.ranges) : (startAttempt s).ranges := ranges_withMu h h.linkHold

theorem select_ranges (h : s.ranges) : (select s).ranges := by
  simp only [select]
  (repeat' split)
  · exact ranges_withMu h (by simpa using h.linkHold)
  · exact h
  · exact h

theorem stopIdleClock_ranges (h : s.ranges) : (stopIdleClock s).ranges :=
  iteInduction (fun _ => ranges_withMu h h.linkHold) fun _ => h

theorem selectOrStop_ranges (h : s.ranges) : (selectOrStop s).ranges := stopIdleClock_ranges (select_ranges h)

theorem startOnDemand_ranges (h : s.ranges) : (startOnDemand s).ranges :=
  iteInduction (fun _ => startAttempt_ranges h) fun _ => h

theorem serveRequest_ranges (h : s.ranges) : (serveRequest s).ranges := by
  simp only [serveRequest]
  split
  · exact startAttempt_ranges h
  · exact startAttempt_ranges h
  · exact h
  · exact select_ranges h

theorem request_ranges (u : User) (h : s.ranges) : (request u s).ranges :=
  iteInduction (fun _ => iteInduction (fun _ => missedSample_ranges h) fun _ => h) fun _ =>
    serveRequest_ranges (ranges_withMu h (by simpa using h.linkHold))

theorem measureRailOn_ranges (h : s.ranges) : (measureRailOn s).ranges :=
  startOnDemand_ranges (selectOrStop_ranges (ranges_withMu h (by simpa [Mu.abort] using h.linkHold)))

theorem measureRailOff_ranges (h : s.ranges) : (measureRailOff s).ranges :=
  selectOrStop_ranges (ranges_withMu h (by simp))

theorem setClockFault_ranges (b : Bool) (h : s.ranges) : (setClockFault b s).ranges :=
  iteInduction (fun _ => h) fun _ => raiseStatus_ranges (ranges_withMu h h.linkHold)

theorem clockFails_ranges (h : s.ranges) : (clockFails s).ranges := by
  have failed : ∀ u : State, u.ranges → (linkClockFailed (raiseEvent .clockFault (setClockFault true u))).ranges :=
    fun u hu => ranges_congr (raiseEvent_ranges .clockFault (setClockFault_ranges true hu)) (by simp)
  exact iteInduction (fun _ => missedSample_ranges (failed _ (ranges_withMu h h.linkHold))) fun _ =>
    failed _ (ranges_withMu h h.linkHold)

theorem batteryOnNetChange_ranges (o n : NetState) (h : s.ranges) : (batteryOnNetChange o n s).ranges :=
  iteInduction (fun _ => h) fun _ => ranges_withMu h h.linkHold

theorem linkHoldRunsOut_ranges (h : s.ranges) : (linkHoldRunsOut s).ranges :=
  iteInduction (fun _ => stopIdleClock_ranges (ranges_withMu h (by simp))) fun _ => h

theorem countLinkHold_ranges (h : s.ranges) : (countLinkHold s).ranges :=
  iteInduction (fun _ => linkHoldRunsOut_ranges h) fun _ =>
    ranges_withMu h ((Nat.sub_le ..).trans h.linkHold)

/-! ### The episode view -/

theorem setNet_ranges (n : NetState) (h : s.ranges) : (setNet n s).ranges :=
  batteryOnNetChange_ranges _ _ (iteInduction (fun _ => ranges_congr h (by simp [withdrawRest])) fun _ =>
    ranges_congr h (by simp))

theorem setTable_ranges (t : List Entry) (h : s.ranges) : (setTable t s).ranges := ranges_congr h (by simp)

theorem setAlarm_ranges (a : Alarms) (h : s.ranges) : (setAlarm a s).ranges := ranges_congr h (by simp)

theorem withEv_ranges (x : Ev) (h : s.ranges) : (s.withEv x).ranges := ranges_congr h (by simp)

theorem evStatus_ranges (v : StatusValues) (d : HoldMap) (o : Option Half) (h : s.ranges) :
    (evStatus v d o s).ranges := setTable_ranges _ (setAlarm_ranges _ (setNet_ranges _ (withEv_ranges _ h)))

theorem evRest_ranges (m d : HoldMap) (b : Bool) (h : s.ranges) : (evRest m d b s).ranges :=
  setTable_ranges _ (setNet_ranges _ h)

theorem evAdmit_ranges (m : HoldMap) (h : s.ranges) : (evAdmit m s).ranges :=
  setTable_ranges _ (setAlarm_ranges _ (setNet_ranges _ (withEv_ranges _ h)))

theorem evJoining_ranges (h : s.ranges) : (evJoining s).ranges :=
  batteryOnNetChange_ranges _ _ (withEv_ranges _ (setTable_ranges _ h))

theorem evLocalEntry_ranges (h : s.ranges) : (evLocalEntry s).ranges := withEv_ranges _ (setTable_ranges _ h)

/-! ### The module power controller -/

theorem railOn_ranges (h : s.ranges) : (railOn s).ranges := measureRailOn_ranges (drainRailOn_ranges h)

theorem railOff_ranges (h : s.ranges) : (railOff s).ranges :=
  drainRailOff_ranges (measureRailOff_ranges (ranges_congr h (by simp)))

theorem enterPowering_ranges (n : Need) (h : s.ranges) : (enterPowering n s).ranges :=
  raiseStatus_ranges (railOn_ranges (ranges_withMpc h h.loud))

theorem enterParking_ranges (h : s.ranges) : (enterParking s).ranges :=
  raiseStatus_ranges (raiseEvent_ranges _ (ranges_withMpc h h.loud))

theorem evaluateOn_ranges (n : Need) (h : s.ranges) : (evaluateOn n s).ranges :=
  iteInduction (fun _ => enterParking_ranges h) fun _ => ranges_withMpc h h.loud

theorem cancelPark_ranges (n : Need) (h : s.ranges) : (cancelPark n s).ranges :=
  raiseStatus_ranges (raiseEvent_ranges _ (ranges_withMpc h h.loud))

theorem recordNeed_ranges (n : Need) (h : s.ranges) : (recordNeed n s).ranges := ranges_withMpc h h.loud

theorem evaluateNeed_ranges (h : s.ranges) : (evaluateNeed s).ranges := by
  refine iteInduction (fun _ => h) fun _ => ?_
  split
  · exact iteInduction (fun _ => recordNeed_ranges _ h) fun _ => enterPowering_ranges _ h
  · exact recordNeed_ranges _ h
  · exact evaluateOn_ranges _ h
  · exact iteInduction (fun _ => recordNeed_ranges _ h) fun _ => cancelPark_ranges _ h
  · exact iteInduction (fun _ => enterPowering_ranges _ (ranges_withMpc h (by simp))) fun _ => recordNeed_ranges _ h

theorem powerUpDone_ranges (h : s.ranges) : (powerUpDone s).ranges :=
  evaluateNeed_ranges (raiseStatus_ranges (ranges_withMpc h h.loud))

theorem parkDone_ranges (h : s.ranges) : (parkDone s).ranges :=
  raiseStatus_ranges (railOff_ranges (ranges_withMpc h h.loud))

theorem leaveCut_ranges (h : s.ranges) : (leaveCut s).ranges := raiseStatus_ranges (ranges_withMpc h (by simp))

theorem restoreModule_ranges (h : s.ranges) : (restoreModule s).ranges :=
  iteInduction (fun _ => evaluateNeed_ranges (leaveCut_ranges h)) fun _ => h

theorem setLoud_ranges {n : Nat} (hn : n ≤ 7) (h : s.ranges) : (setLoud n s).ranges :=
  iteInduction (fun _ => ranges_withMpc h hn) fun _ => raiseStatus_ranges (ranges_withMpc h hn)

theorem loudOutcome_ranges (h : s.ranges) : (loudOutcome s).ranges := by
  have counted := setLoud_ranges (Nat.min_le_right (s.mpc.loud + 1) 7) h
  exact iteInduction
    (fun _ => raiseStatus_ranges (raiseEvent_ranges .feedCut (ranges_withMpc counted counted.loud))) fun _ => counted

theorem mpcStatus_ranges (b : Bool) (h : s.ranges) : (mpcStatus b s).ranges :=
  evaluateNeed_ranges (iteInduction (fun _ => restoreModule_ranges h) fun _ => h)

/-! ### The cause table -/

theorem trigger_ranges (i : Nat) (h : s.ranges) : (trigger i s).ranges :=
  ranges_congr h (by simp [wantsOnly_voids (trigger_wantsOnly i s)])

theorem setSlot_ranges (i : Nat) (c : Cause) (h : s.ranges) : (setSlot i c s).ranges := ranges_congr h (by simp)

theorem reportCause_ranges (c : Cause) (h : s.ranges) : (reportCause c s).ranges :=
  iteInduction (fun _ => evaluateNeed_ranges h) fun _ => h

theorem followSource_ranges (i : Nat) (h : s.ranges) : (followSource i s).ranges :=
  iteInduction (fun _ => h) fun _ => reportCause_ranges _ (setSlot_ranges _ _ h)

theorem ctStatus_ranges (o : Option Half) (b : Alarms) (h : s.ranges) : (ctStatus o b s).ranges :=
  ranges_congr h (by simp [wantsOnly_voids (ctStatus_wantsOnly o b s)])

theorem wantAcceptable_ranges (h : s.ranges) : (wantAcceptable s).ranges :=
  iteInduction (fun _ => raiseStatus_ranges h) fun _ => h

theorem ctAdmit_ranges (m : HoldMap) (h : s.ranges) : (ctAdmit m s).ranges :=
  wantAcceptable_ranges (ranges_congr h (by simp))

theorem patienceRunsOut_ranges (i : Nat) (h : s.ranges) : (patienceRunsOut i s).ranges := ranges_congr h (by simp)

theorem lingerRunsOut_ranges (i : Nat) (h : s.ranges) : (lingerRunsOut i s).ranges :=
  iteInduction (fun _ => reportCause_ranges _ (raiseStatus_ranges (setSlot_ranges _ _ h))) fun _ => h

theorem setTimer_ranges (n : Nat) (w : WakeTimer) (h : s.ranges) : (setTimer n w s).ranges := ranges_congr h (by simp)

theorem wakeTimerRunsOut_ranges (n : Nat) (h : s.ranges) : (wakeTimerRunsOut n s).ranges :=
  iteInduction (fun _ => trigger_ranges _ (setTimer_ranges _ _ h)) fun _ => h

theorem filteredEdge_ranges (k : Nat) (b : Bool) (h : s.ranges) : (filteredEdge k b s).ranges := by
  refine iteInduction (fun _ => h) fun _ => followSource_ranges _ ?_
  exact iteInduction (fun _ => trigger_ranges _ (ranges_congr h (by simp))) fun _ => ranges_congr h (by simp)

theorem countSlot_ranges (i : Nat) (h : s.ranges) : (countSlot i s).ranges := by
  simp only [countSlot]
  split
  · exact iteInduction (fun _ => h) fun _ =>
      iteInduction (fun _ => patienceRunsOut_ranges _ h) fun _ => setSlot_ranges _ _ h
  · exact iteInduction (fun _ => lingerRunsOut_ranges _ h) fun _ => setSlot_ranges _ _ h
  all_goals exact h

theorem countWakeTimer_ranges (n : Nat) (h : s.ranges) : (countWakeTimer n s).ranges :=
  iteInduction (fun _ => iteInduction (fun _ => wakeTimerRunsOut_ranges _ h) fun _ => setTimer_ranges _ _ h) fun _ => h

theorem sampleSense_ranges (k : Nat) (h : s.ranges) : (sampleSense k s).ranges :=
  iteInduction (fun _ => ranges_congr h (by simp)) fun _ =>
    iteInduction (fun _ => filteredEdge_ranges _ _ h) fun _ => ranges_congr h (by simp)

/-! ### The census unit -/

theorem censusRun_ranges (h : s.ranges) : (censusRun s).ranges := raiseCensus_ranges (ranges_withCu h h.cu)

theorem censusRecheck_ranges (h : s.ranges) : (censusRecheck s).ranges :=
  iteInduction (fun _ => censusRun_ranges h) fun _ => h

theorem censusStep_ranges (l : Level) (c : Station) (h : s.ranges) : (censusStep l c s).ranges := by
  refine iteInduction (fun _ => iteInduction (fun _ => ranges_withCu h h.cu) fun _ => raiseCensus_ranges h) fun _ => ?_
  refine iteInduction (fun _ => iteInduction (fun _ => ?_) fun _ => ?_) fun _ => h
  · exact raiseEvent_ranges _ (withdrawCensus_ranges (ranges_withCu h h.cu))
  · refine iteInduction (fun _ => raiseCensus_ranges (ranges_withCu h h.cu)) fun _ => ?_
    exact iteInduction (fun _ => raiseCensus_ranges (raiseEvent_ranges _ (ranges_withCu h h.cu))) fun _ =>
      raiseCensus_ranges (ranges_withCu h h.cu)

theorem censusYield_ranges (l : Level) (c : Station) (h : s.ranges) : (censusYield l c s).ranges :=
  iteInduction (fun _ => iteInduction (fun _ => ranges_withCu h h.cu) fun _ =>
    withdrawCensus_ranges (ranges_withCu h h.cu)) fun _ => h

/-- A committed Census round loads the age or keeps the record that stands (R174). -/
theorem answered_inRange {c : Cu} (n q : Station) (l : Level) (d : Station) (h : c.inRange) :
    ({ c with exclusion := c.answered n q l d } : Cu).inRange := by
  refine ⟨h.1, fun e he => ?_⟩
  have hx := h.2
  simp only [Cu.answered] at he
  split at he
  · split at he
    · split at he
      · cases he
      · exact hx e (by simp_all)
    · cases he
  · split at he
    · cases he
    · split at he
      · split at he <;> cases he <;> exact le_refl _
      · cases he
        exact le_refl _

theorem cuCensus_ranges (w : Bool) (q : Station) (l : Level) (c : Station) (h : s.ranges) :
    (cuCensus w q l c s).ranges := by
  have answered := ranges_withCu h (answered_inRange s.mc.number q l c h.cu)
  exact censusRecheck_ranges
    (iteInduction (fun _ => censusStep_ranges _ _ answered) fun _ => censusYield_ranges _ _ answered)

theorem cuStatus_ranges (m : HoldMap) (h : s.ranges) : (cuStatus m s).ranges :=
  iteInduction (fun _ => ranges_withCu h h.cu) fun _ => h

theorem cuLeaveMember_ranges (h : s.ranges) : (cuLeaveMember s).ranges := ranges_withCu h ⟨h.cu.1, by simp⟩

theorem exclusionRunsOut_ranges (h : s.ranges) : (exclusionRunsOut s).ranges := by
  simp only [exclusionRunsOut]
  split
  · exact censusRecheck_ranges (ranges_withCu h ⟨h.cu.1, by simp⟩)
  · exact h

theorem holdOffRunsOut_ranges (h : s.ranges) : (holdOffRunsOut s).ranges :=
  iteInduction (fun _ => censusRecheck_ranges (ranges_withCu h ⟨by simp, h.cu.2⟩)) fun _ => h

theorem countExclusion_ranges (h : s.ranges) : (countExclusion s).ranges := by
  simp only [countExclusion]
  split
  next e he =>
    have aged : e.age - 1 ≤ Config.twoSeconds := (Nat.sub_le ..).trans (h.cu.2 e he)
    exact iteInduction (fun _ => exclusionRunsOut_ranges h) fun _ => ranges_withCu h ⟨h.cu.1, by simpa using aged⟩
  · exact h

theorem countHoldOff_ranges (h : s.ranges) : (countHoldOff s).ranges :=
  iteInduction (fun _ => holdOffRunsOut_ranges h) fun _ =>
    ranges_withCu h ⟨(Nat.sub_le ..).trans h.cu.1, h.cu.2⟩

theorem censusBegin_ranges (l : Level) (h : s.ranges) : (censusBegin l s).ranges :=
  iteInduction (fun _ => withdrawCensus_ranges (ranges_withCu (ranges_withCu h h.cu) h.cu)) fun _ =>
    censusRun_ranges (ranges_withCu h h.cu)

/-! ### The membership controller -/

theorem withMc_ranges (x : Mc) (h : s.ranges) : (s.withMc x).ranges := ranges_congr h (by simp)

theorem withPl_ranges (x : Pl) (h : s.ranges) : (s.withPl x).ranges := ranges_congr h (by simp)

theorem offerCauses_ranges (h : s.ranges) : (offerCauses s).ranges := ranges_congr h (by simp)

theorem unfreeze_ranges (h : s.ranges) : (unfreeze s).ranges := ranges_withMpc h h.loud

theorem localStatus_ranges (h : s.ranges) : (localStatus s).ranges := by
  have offered := offerCauses_ranges (withMc_ranges { s.mc with decisionDue := false } h)
  have applied : ∀ v d a, (ctStatus none a (evStatus v d none (offerCauses (s.withMc { s.mc with decisionDue := false })))).ranges :=
    fun v d a => ctStatus_ranges _ _ (evStatus_ranges _ _ _ offered)
  refine withPl_ranges _ (mpcStatus_ranges _ (unfreeze_ranges ?_))
  exact iteInduction (fun _ => refill_ranges (applied _ _ _)) fun _ => applied _ _ _

theorem localRest_ranges (h : s.ranges) : (localRest s).ranges := evaluateNeed_ranges (evRest_ranges _ _ _ h)

theorem takeDueDecisions_ranges (h : s.ranges) : (takeDueDecisions s).ranges := by
  have decided : (if s.mc.decisionDue then localStatus s else s).ranges :=
    iteInduction (fun _ => localStatus_ranges h) fun _ => h
  exact iteInduction (fun _ => iteInduction (fun _ => localRest_ranges (withMc_ranges _ decided)) fun _ => decided)
    fun _ => h

theorem enterLocal_ranges (h : s.ranges) : (enterLocal s).ranges := by
  have entered := localStatus_ranges (evLocalEntry_ranges h)
  exact iteInduction (fun _ => localRest_ranges entered) fun _ => entered

theorem returnOffers_ranges (h : s.ranges) : (returnOffers s).ranges := ranges_congr h (by simp)

theorem dropOpened_ranges (h : s.ranges) : (dropOpened s).ranges := ranges_congr h (by simp)

theorem memberToDegraded_ranges (f : LineFault) (h : s.ranges) : (memberToDegraded f s).ranges :=
  raiseEvent_ranges _ (enterLocal_ranges (cuLeaveMember_ranges (dropOpened_ranges (returnOffers_ranges
    (withMc_ranges _ (ranges_withRe_zero h rfl))))))

theorem joiningToDegraded_ranges (f : LineFault) (h : s.ranges) : (joiningToDegraded f s).ranges :=
  raiseEvent_ranges _ (enterLocal_ranges (dropOpened_ranges (withMc_ranges _ (ranges_withRe_zero h rfl))))

theorem degradedFault_ranges (f : LineFault) (h : s.ranges) : (degradedFault f s).ranges :=
  raiseEvent_ranges _ (withMc_ranges _ (ranges_withRe h h.voids))

theorem reportFault_ranges (f : LineFault) (h : s.ranges) : (reportFault f s).ranges := by
  simp only [reportFault]
  split
  · exact memberToDegraded_ranges f h
  · exact iteInduction (fun _ => h) fun _ => joiningToDegraded_ranges f h
  · exact degradedFault_ranges f h
  all_goals exact h

theorem enterJoining_ranges (h : s.ranges) : (enterJoining s).ranges := by
  have wanted : ∀ m : Mc, (raiseJoin ((s.withMc m).withRe { (s.withMc m).re with voids := 0 })).ranges := fun m =>
    raiseJoin_ranges (ranges_withRe_zero (withMc_ranges m h) rfl)
  have joining : ∀ t : State, t.ranges → (t.withMpc { t.mpc with frozen := true }).ranges := fun t ht =>
    ranges_withMpc ht ht.loud
  exact joining _ (evJoining_ranges (iteInduction (fun _ => ranges_withLif (wanted _) (Nat.zero_le _)) fun _ => wanted _))

theorem setDisagreement_ranges (b : Bool) (h : s.ranges) : (setDisagreement b s).ranges :=
  iteInduction (fun _ => h) fun _ => raiseStatus_ranges (withMc_ranges _ h)

theorem admitStation_ranges (c : Half) (m : HoldMap) (h : s.ranges) : (admitStation c m s).ranges := by
  have recorded : ∀ (r : Re) (x : Mc), r.voids = 0 → ((s.withRe r).withMc x).ranges := fun r x hr =>
    withMc_ranges _ (ranges_withRe_zero h hr)
  have applied := evAdmit_ranges m (raiseStatus_ranges (recorded { s.re with join := .clear, voids := 0 }
    { s.mc with state := .member, counter := c + 1, lastFault := none, rejoin := none, disagreement := false
                decisionDue := false, restDue := false } rfl))
  have admitted := evaluateNeed_ranges (unfreeze_ranges (ctAdmit_ranges m applied))
  exact ranges_withCu admitted ⟨le_refl _, admitted.cu.2⟩

theorem refuse_ranges (f : LineFault) (b : Bool) (h : s.ranges) : (refuse f b s).ranges := by
  have refused : ∀ (r : Re) (x : Mc) (l : Lif), r.voids = 0 → l.idleRun = 0 →
      (setDisagreement b (((s.withRe r).withMc x).withLif l)).ranges := fun r x l hr hl =>
    setDisagreement_ranges b (ranges_withLif (withMc_ranges _ (ranges_withRe_zero h hr)) (by simp [hl]))
  exact raiseEvent_ranges _
    (iteInduction (fun _ => refused _ _ _ rfl rfl) fun _ => enterLocal_ranges (refused _ _ _ rfl rfl))

theorem commitJoin_ranges (r : RoundRecord) (h : s.ranges) : (commitJoin r s).ranges :=
  iteInduction (fun _ => setDisagreement_ranges _ (withMc_ranges _ h)) fun _ =>
    iteInduction (fun _ => refuse_ranges _ _ h) fun _ =>
      iteInduction (fun _ => admitStation_ranges _ _ h) fun _ => refuse_ranges _ _ h

theorem rejoinRunsOut_ranges (h : s.ranges) : (rejoinRunsOut s).ranges :=
  iteInduction (fun _ => raiseJoin_ranges (withMc_ranges _ h)) fun _ => h

theorem heartbeatRunsOut_ranges (h : s.ranges) : (heartbeatRunsOut s).ranges :=
  iteInduction (fun _ => raiseStatus_ranges (withEv_ranges _ h)) fun _ => h

theorem settleRunsOut_ranges (h : s.ranges) : (settleRunsOut s).ranges := by
  refine iteInduction (fun _ => iteInduction (fun _ => ?_) fun _ => raiseRest_ranges (withEv_ranges _ h)) fun _ => h
  exact iteInduction (fun _ => withMc_ranges _ (withEv_ranges _ h)) fun _ => localRest_ranges (withEv_ranges _ h)

theorem countRejoin_ranges (h : s.ranges) : (countRejoin s).ranges := by
  simp only [countRejoin]
  split
  · exact iteInduction (fun _ => rejoinRunsOut_ranges h) fun _ => withMc_ranges _ h
  · exact h

theorem countHeartbeat_ranges (h : s.ranges) : (countHeartbeat s).ranges := by
  simp only [countHeartbeat]
  split
  · exact iteInduction (fun _ => heartbeatRunsOut_ranges h) fun _ => withEv_ranges _ h
  · exact h

theorem countSettle_ranges (h : s.ranges) : (countSettle s).ranges := by
  simp only [countSettle]
  split
  · exact iteInduction (fun _ => settleRunsOut_ranges h) fun _ => withEv_ranges _ h
  · exact h

/-! ### Rounds -/

@[simp] theorem clearMarks_voids (r : Re) : r.clearMarks.voids = r.voids := rfl

theorem setRecord_ranges (r : Option RoundRecord) (h : s.ranges) : (setRecord r s).ranges := ranges_withRe h h.voids

theorem openRecord_ranges (h : s.ranges) : (openRecord s).ranges := setRecord_ranges _ h

theorem segBegin_ranges (r : RoundRecord) (h : s.ranges) : (segBegin r s).ranges :=
  setRecord_ranges _ (iteInduction (fun _ => offerCauses_ranges h) fun _ => h)

theorem bitBegin_ranges (h : s.ranges) : (bitBegin s).ranges := by
  have begun : ∀ t : State, t.ranges → ∀ d, (t.withLif { t.lif with drive := d }).ranges := fun t ht d =>
    ranges_withLif ht ht.idleRun
  refine begun _ ?_ _
  split
  · exact iteInduction (fun _ => segBegin_ranges _ h) fun _ => h
  · exact h

theorem abandonRound_ranges (h : s.ranges) : (abandonRound s).ranges := ranges_withRe h h.voids

theorem lostSync_ranges (h : s.ranges) : (lostSync s).ranges :=
  reportFault_ranges _ (abandonRound_ranges (ranges_withLif h (Nat.zero_le _)))

theorem driveFault_ranges (h : s.ranges) : (driveFault s).ranges :=
  reportFault_ranges _ (ranges_withRe (ranges_withLif h h.idleRun) h.voids)

theorem stuckLineFound_ranges (h : s.ranges) : (stuckLineFound s).ranges :=
  iteInduction (fun _ => h) fun _ => reportFault_ranges _ (abandonRound_ranges (ranges_withLif h (Nat.zero_le _)))

theorem pulseDriveFault_ranges (h : s.ranges) : (pulseDriveFault s).ranges :=
  reportFault_ranges _ (abandonRound_ranges (ranges_withLif h (Nat.zero_le _)))

theorem bitSample_ranges (x : Bool) (h : s.ranges) : (bitSample x s).ranges := by
  simp only [bitSample]
  split
  · exact h
  · split
    · exact iteInduction (fun _ => lostSync_ranges h) fun _ => setRecord_ranges _ h
    · refine iteInduction (fun _ => iteInduction (fun _ => lostSync_ranges h) fun _ => ?_) fun _ => setRecord_ranges _ h
      exact setRecord_ranges _ (ranges_withLif h h.idleRun)
    all_goals exact iteInduction (fun _ => driveFault_ranges (setRecord_ranges _ h)) fun _ => setRecord_ranges _ h

theorem advanceCounter_ranges (h : s.ranges) : (advanceCounter s).ranges := withMc_ranges _ h

theorem commitStatus_ranges (r : RoundRecord) (h : s.ranges) : (commitStatus r s).ranges := by
  have settled : ∀ w, (advanceCounter (s.withRe { s.re with status := w })).ranges := fun w =>
    advanceCounter_ranges (ranges_withRe h h.voids)
  have applied := fun v d o b => ctStatus_ranges o b (evStatus_ranges v d o (settled s.re.status.settle))
  exact cuStatus_ranges _ (withPl_ranges _ (mpcStatus_ranges _
    (iteInduction (fun _ => refill_ranges (applied _ _ _ _)) fun _ => applied _ _ _ _)))

theorem commitRest_ranges (r : RoundRecord) (h : s.ranges) : (commitRest r s).ranges :=
  evaluateNeed_ranges (evRest_ranges _ _ _ (advanceCounter_ranges (ranges_withRe h h.voids)))

theorem commitCensus_ranges (r : RoundRecord) (h : s.ranges) : (commitCensus r s).ranges :=
  cuCensus_ranges _ _ _ _ (iteInduction (fun _ => ranges_withRe (advanceCounter_ranges h) h.voids) fun _ =>
    advanceCounter_ranges h)

theorem commitRound_ranges (r : RoundRecord) (h : s.ranges) : (commitRound r s).ranges := by
  have counted : (s.withRe { s.re with voids := 0 }).ranges := ranges_withRe_zero h rfl
  simp only [commitRound]
  split
  · exact commitStatus_ranges r counted
  · exact commitRest_ranges r counted
  · exact commitCensus_ranges r counted
  · exact commitJoin_ranges r counted
  · exact counted

theorem voidRound_ranges (h : s.ranges) : (voidRound s).ranges := by
  have returned : (returnOffers (s.withRe s.re.clearMarks)).ranges := returnOffers_ranges (ranges_withRe h h.voids)
  exact iteInduction (fun hn => ranges_withRe returned hn) fun _ =>
    reportFault_ranges _ (ranges_withRe_zero returned rfl)

theorem closeRound_ranges (h : s.ranges) : (closeRound s).ranges :=
  iteInduction (fun _ => setRecord_ranges _ (ranges_withLif h h.idleRun)) fun _ => h

theorem endOfVoid_ranges (r : RoundRecord) (h : s.ranges) : (endOfVoid r s).ranges := by
  have ended : ((s.withLif { s.lif.leave .closing with idleRun := 0 }).withRe { s.re with named := none }).ranges :=
    ranges_withRe (ranges_withLif h (Nat.zero_le _)) h.voids
  exact iteInduction (fun _ => closeRound_ranges ended) fun _ =>
    iteInduction (fun _ => voidRound_ranges ended) fun _ => commitRound_ranges r ended

theorem bitEnd_ranges (h : s.ranges) : (bitEnd s).ranges := by
  simp only [bitEnd]
  split
  · exact h
  · have passed : (s.withLif { s.lif with bitPos := s.lif.bitPos + 1, period := 0 }).ranges :=
      ranges_withLif h h.idleRun
    refine iteInduction (fun _ => setRecord_ranges _ passed) fun _ => ?_
    split
    · exact endOfVoid_ranges _ passed
    · exact iteInduction (fun _ => ranges_withRe (ranges_withLif passed (Nat.zero_le _)) passed.voids) fun _ =>
        setRecord_ranges _ passed
    all_goals exact setRecord_ranges _ passed

theorem watchBit_ranges (x : Bool) (n : Nat) (h : s.ranges) : (watchBit x n s).ranges := by
  have counted : ∀ run, (s.withLif { s.lif with assertedRun := run }).ranges := fun run => ranges_withLif h h.idleRun
  exact iteInduction (fun _ => stuckLineFound_ranges (counted _)) fun _ => counted _

theorem finishBit_ranges (x : Bool) (h : s.ranges) : (finishBit x s).ranges :=
  iteInduction (fun _ => iteInduction (fun _ => bitEnd_ranges (watchBit_ranges _ _ h)) fun _ => watchBit_ranges _ _ h)
    fun _ => h

theorem runBit_ranges (x : Bool) (h : s.ranges) : (runBit x s).ranges := by
  have begun : (if s.lif.period = 0 then bitBegin s else s).ranges := iteInduction (fun _ => bitBegin_ranges h) fun _ => h
  exact iteInduction (fun _ => iteInduction
    (fun _ => finishBit_ranges _ (bitSample_ranges _ (watchBit_ranges _ _ begun))) fun _ => watchBit_ranges _ _ begun)
    fun _ => h

theorem releaseEdge_ranges (n : Nat) (h : s.ranges) : (releaseEdge n s).ranges := by
  have passed : ∀ t : State, t.ranges → (t.withLif { t.lif with period := 1 }).ranges := fun t ht =>
    ranges_withLif ht ht.idleRun
  exact iteInduction (fun _ => stuckLineFound_ranges h) fun _ => passed _ (bitBegin_ranges (ranges_withLif h h.idleRun))

theorem pulseEnds_ranges (n : Nat) (h : s.ranges) : (pulseEnds n s).ranges :=
  iteInduction (fun _ => pulseDriveFault_ranges h) fun _ => iteInduction (fun _ => releaseEdge_ranges _ h) fun _ =>
    ranges_withRe (ranges_withLif h (Nat.zero_le _)) h.voids

theorem followRound_ranges (n : Nat) (xs : List Bool) (h : s.ranges) : (followRound n xs s).ranges := by
  have edge : (if s.lif.state = .pulse ∧ s.re.record.isSome then pulseEnds (max n s.lif.stretch) s else s).ranges :=
    iteInduction (fun _ => pulseEnds_ranges _ h) fun _ => h
  exact runBits_induct _ State.ranges (fun x t => runBit_ranges (s := t) x) xs
    (iteInduction (fun _ => finishBit_ranges _ edge) fun _ => edge)

theorem withPins_ranges (x : Pins) (h : s.ranges) : (s.withPins x).ranges := ranges_congr h (by simp)

theorem roundEffect_ranges (n : Nat) (xs : List Bool) (b : Bool) (h : s.ranges) : (roundEffect n xs b s).ranges := by
  have followed := fun p => withPins_ranges p (followRound_ranges n xs h)
  exact iteInduction (fun _ => closeRound_ranges (followed _)) fun _ => followed _

/-! ### The line -/

theorem setWakePeers_ranges (b : Bool) (h : s.ranges) : (setWakePeers b s).ranges := withPins_ranges _ h

theorem seekingEnds_ranges (h : s.ranges) : (seekingEnds s).ranges :=
  ranges_withLif h (Nat.max_le.2 ⟨h.idleRun, by decide⟩)

/-- The start offset is 96 to 152 periods (R32). -/
theorem startOffset_bounds (n : Station) : 96 ≤ startOffset n ∧ startOffset n ≤ 152 := by
  simp only [startOffset]
  omega

theorem pulseBegins_ranges (t : RoundType) (h : s.ranges) : (pulseBegins t s).ranges :=
  ranges_withRe (ranges_withLif h (Nat.max_le.2 ⟨h.idleRun, (startOffset_bounds _).2.trans (by decide)⟩)) h.voids

theorem startRequest_ranges (f : Option (Fin 6)) (h : s.ranges) : (startRequest f s).ranges := by
  simp only [startRequest]
  split
  · refine iteInduction (fun _ => ?_) fun _ => h
    split
    · exact pulseBegins_ranges _ h
    · exact pulseDriveFault_ranges (pulseBegins_ranges _ h)
  · exact h

theorem requestDue_ranges (h : s.ranges) : (requestDue s).ranges :=
  iteInduction (fun _ => startRequest_ranges _ h) fun _ => h

theorem receiverPulse_ranges (n : Nat) (h : s.ranges) : (receiverPulse n s).ranges := ranges_withLif h (Nat.zero_le _)

theorem startIsAccepted_ranges (h : s.ranges) : (startIsAccepted s).ranges :=
  openRecord_ranges (ranges_withLif h (Nat.zero_le _))

theorem stretchReaches_ranges (h : s.ranges) : (stretchReaches s).ranges := by
  simp only [stretchReaches]
  split
  · exact iteInduction (fun _ => startIsAccepted_ranges h) fun _ => h
  · exact startIsAccepted_ranges (receiverPulse_ranges _ h)
  · exact lostSync_ranges (ranges_withLif h h.idleRun)
  all_goals exact h

theorem stuckClears_ranges (h : s.ranges) : (stuckClears s).ranges := ranges_withLif h (Nat.zero_le _)

theorem assertedReading_ranges (h : s.ranges) : (assertedReading s).ranges :=
  iteInduction (fun _ => stuckLineFound_ranges (ranges_withLif h (Nat.zero_le _))) fun _ =>
    ranges_withLif h (Nat.zero_le _)

theorem releasedReading_ranges (h : s.ranges) : (releasedReading s).ranges := ranges_withLif h (Nat.min_le_right ..)

theorem stretchGrows_ranges (h : s.ranges) : (stretchGrows s).ranges := by
  have grown : ∀ l : Lif, l.idleRun = 0 → (s.withLif l).ranges := fun l hl => ranges_withLif h (by simp [hl])
  exact iteInduction (fun _ => stuckLineFound_ranges (grown _ rfl)) fun _ =>
    iteInduction (fun _ => startIsAccepted_ranges (grown _ rfl)) fun _ => grown _ rfl

theorem watchRound_ranges (x : Bool) (h : s.ranges) : (watchRound x s).ranges := by
  have watched := watchBit_ranges x 1 h
  have sampled : ∀ v : State, v.ranges → (if v.lif.period = Config.samplePeriodOfBit then bitSample x v else v).ranges :=
    fun v hv => iteInduction (fun _ => bitSample_ranges x hv) fun _ => hv
  have passed := sampled (let w := watchBit x 1 s; w.withLif { w.lif with period := w.lif.period + 1 })
    (ranges_withLif watched watched.idleRun)
  exact iteInduction (fun _ => iteInduction (fun _ => bitEnd_ranges passed) fun _ => passed) fun _ => watched

theorem watchClosing_ranges (x : Bool) (h : s.ranges) : (watchClosing x s).ranges := by
  have read : ∀ n, (assertedReading (s.withLif { s.lif with stretch := n })).ranges := fun n =>
    assertedReading_ranges (ranges_withLif h h.idleRun)
  exact iteInduction (fun _ => iteInduction (fun _ => lostSync_ranges (read _)) fun _ => read _) fun _ =>
    releasedReading_ranges h

theorem watchLine_ranges (x : Bool) (h : s.ranges) : (watchLine x s).ranges := by
  have released := releasedReading_ranges h
  simp only [watchLine]
  split
  · exact h
  · exact iteInduction (fun _ => assertedReading_ranges h) fun _ =>
      iteInduction (fun _ => seekingEnds_ranges released) fun _ => released
  · exact iteInduction (fun _ => iteInduction (fun _ => receiverPulse_ranges _ h) fun _ => assertedReading_ranges h)
      fun _ => released
  · exact iteInduction (fun _ => stretchGrows_ranges h) fun _ => pulseEnds_ranges _ h
  · exact watchRound_ranges x h
  · exact watchClosing_ranges x h
  · exact iteInduction (fun _ => assertedReading_ranges h) fun _ => stuckClears_ranges h

theorem driveForPeriod_ranges (h : s.ranges) : (driveForPeriod s).ranges := by
  simp only [driveForPeriod]
  split
  · exact ranges_withLif h h.idleRun
  · exact iteInduction (fun _ => bitBegin_ranges h) fun _ => h
  all_goals exact h

/-! ### The converter, the schedules and the module timers -/

theorem clockConfirmed_ranges (h : s.ranges) : (clockConfirmed s).ranges :=
  select_ranges (setClockFault_ranges _ (ranges_withMu h h.linkHold))

theorem batteryTimerRunsOut_ranges (h : s.ranges) : (batteryTimerRunsOut s).ranges :=
  iteInduction (fun _ => request_ranges _ (ranges_withMu h h.linkHold)) fun _ => h

theorem requestQuiet_ranges (h : s.ranges) : (requestQuiet s).ranges := request_ranges _ (ranges_withMu h h.linkHold)

theorem quietIntervalRunsOut_ranges (h : s.ranges) : (quietIntervalRunsOut s).ranges :=
  iteInduction (fun _ => requestQuiet_ranges h) fun _ => h

theorem quietDelayRunsOut_ranges (h : s.ranges) : (quietDelayRunsOut s).ranges :=
  iteInduction (fun _ => requestQuiet_ranges (ranges_withMpc h h.loud)) fun _ => h

theorem sampleBoundary_ranges (h : s.ranges) : (sampleBoundary s).ranges :=
  iteInduction (fun _ => request_ranges _ (ranges_withDa h (h.da.congr rfl rfl rfl rfl))) fun _ => h

theorem batteryOutcome_ranges (n : Nat) (h : s.ranges) : (batteryOutcome n s).ranges := by
  have noted : ∀ m : Mu, m.linkHold = s.mu.linkHold → (s.withMu m).ranges := fun m hm =>
    ranges_withMu h (hm ▸ h.linkHold)
  refine iteInduction (fun _ => iteInduction (fun _ => noted _ rfl) fun _ => ?_) fun _ => ?_
  · exact recomputeGrades_ranges (raiseEvent_ranges _ (noted _ rfl))
  · exact iteInduction (fun _ => recomputeGrades_ranges (noted _ rfl)) fun _ => h

theorem quietCheckOutcome_ranges (n : Nat) (h : s.ranges) : (quietCheckOutcome n s).ranges :=
  iteInduction (fun _ => quietCharge_ranges _ (loudOutcome_ranges (ranges_withMu h h.linkHold))) fun _ =>
    quietCharge_ranges _ (setLoud_ranges (Nat.zero_le _) h)

theorem conversionEnds_ranges (v : Int) (h : s.ranges) : (conversionEnds v s).ranges := by
  simp only [conversionEnds]
  split
  · have ended : (s.withMu { s.mu with inFlight := none, conversions := s.mu.conversions + 1 }).ranges :=
      ranges_withMu h h.linkHold
    refine selectOrStop_ranges ?_
    simp only [deliver]
    split
    · exact batteryOutcome_ranges _ ended
    · exact quietCheckOutcome_ranges _ ended
    · exact sampleEntry_ranges _ ended
  · exact h

theorem helloRunsOut_ranges (h : s.ranges) : (helloRunsOut s).ranges :=
  iteInduction (fun _ => powerUpDone_ranges (raiseEvent_ranges _ h)) fun _ => h

theorem graceRunsOut_ranges (h : s.ranges) : (graceRunsOut s).ranges :=
  iteInduction (fun _ => parkDone_ranges (raiseEvent_ranges _ h)) fun _ => h

theorem countPhase_ranges (h : s.ranges) : (countPhase s).ranges := by
  simp only [countPhase]
  split
  · exact iteInduction (fun _ => sampleBoundary_ranges h) fun _ => ranges_withDa h (h.da.congr rfl rfl rfl rfl)
  · exact h

theorem countSettling_ranges (h : s.ranges) : (countSettling s).ranges := by
  simp only [countSettling]
  split
  · exact iteInduction (fun _ => clockFails_ranges h) fun _ => h
  · exact h

theorem countQuietDelay_ranges (h : s.ranges) : (countQuietDelay s).ranges := by
  simp only [countQuietDelay]
  split
  · exact iteInduction (fun _ => quietDelayRunsOut_ranges h) fun _ => ranges_withMpc h h.loud
  · exact h

theorem countGrace_ranges (h : s.ranges) : (countGrace s).ranges := by
  simp only [countGrace]
  split
  · exact iteInduction (fun _ => h) fun _ =>
      iteInduction (fun _ => graceRunsOut_ranges h) fun _ => ranges_withMpc h h.loud
  · exact h

theorem countHello_ranges (h : s.ranges) : (countHello s).ranges := by
  simp only [countHello]
  split
  · exact iteInduction (fun _ => h) fun _ =>
      iteInduction (fun _ => helloRunsOut_ranges h) fun _ => ranges_withMpc h h.loud
  · exact h

theorem countBattery_ranges (h : s.ranges) : (countBattery s).ranges := by
  simp only [countBattery]
  split
  · exact iteInduction (fun _ => batteryTimerRunsOut_ranges h) fun _ => ranges_withMu h h.linkHold
  · exact h

theorem countQuietInterval_ranges (h : s.ranges) : (countQuietInterval s).ranges := by
  simp only [countQuietInterval]
  split
  · exact iteInduction (fun _ => quietIntervalRunsOut_ranges h) fun _ => ranges_withMu h h.linkHold
  · exact h

/-! ### The period -/

theorem periodBegins_ranges (due : Bool) : ∀ f ∈ periodBegins due, ∀ t : State, t.ranges → (f t).ranges := by
  have decided : ∀ t : State, t.ranges → (takeDecisionsIf due t).ranges := fun t ht =>
    iteInduction (fun _ => takeDueDecisions_ranges ht) fun _ => ht
  simp +contextual [periodBegins, periodCounts, closeRound_ranges, countPhase_ranges, countLinkHold_ranges,
    countSettling_ranges, countQuietDelay_ranges, countGrace_ranges, countHello_ranges, decided, requestDue_ranges,
    driveForPeriod_ranges]

theorem tickCounts_ranges : ∀ f ∈ tickCounts, ∀ t : State, t.ranges → (f t).ranges := by
  simp +contextual [tickCounts, countSlot_ranges, countWakeTimer_ranges, countRejoin_ranges, countHeartbeat_ranges,
    countSettle_ranges, countQuietTicks_ranges, countBattery_ranges, countQuietInterval_ranges, countExclusion_ranges,
    countHoldOff_ranges]

theorem periodEnds_ranges : ∀ f ∈ periodEnds, ∀ t : State, t.ranges → (f t).ranges := by
  simp +contextual [periodEnds, watchLine_ranges, sampleSense_ranges, stopIdleClock_ranges, startOnDemand_ranges]

theorem slowPeriod_ranges (h : s.ranges) : (slowPeriod s).ranges := by
  refine slowPeriod_induct s State.ranges (fun due f hf t ht => ?_) (ranges_congr h (by simp))
  rw [List.mem_append, List.mem_append] at hf
  rcases hf with (hf | hf) | hf
  · exact periodBegins_ranges due f hf t ht
  · exact tickCounts_ranges f hf t ht
  · exact periodEnds_ranges f hf t ht

/-! ### The link and the starts -/

theorem setTxn_ranges (x : Option Txn) (s : State) (h : s.ranges) : (setTxn x s).ranges := ranges_congr h (by simp)

theorem linkAssert_ranges (h : s.ranges) : (linkAssert s).ranges := by
  have asserted : ∀ p, (s.withPins p).ranges := fun p => withPins_ranges p h
  refine iteInduction (fun _ => h) fun _ => iteInduction (fun _ => ?_) fun _ => asserted _
  exact iteInduction (fun _ => startAttempt_ranges (setTxn_ranges _ _ (asserted _))) fun _ => setTxn_ranges _ _ (asserted _)

theorem linkRelease_ranges (n : Nat) (h : s.ranges) : (linkRelease n s).ranges := by
  have released : ∀ p, (s.withPins p).ranges := fun p => withPins_ranges p h
  refine iteInduction (fun _ => iteInduction (fun _ => ?_) fun _ => released _) fun _ => h
  exact startOnDemand_ranges (ranges_withMu (withPl_ranges _ (released _)) (le_refl _))

theorem fixConfiguration_ranges (h : s.ranges) : (fixConfiguration s).ranges := by
  have entered : ∀ m, (loadCauses (enterJoining (s.withMc m))).ranges := fun m =>
    ranges_congr (enterJoining_ranges (withMc_ranges m h)) (by simp)
  have scheduled : ∀ (t : State) (b : Option Nat), t.ranges → (t.withMu { t.mu with batteryTimer := b }).ranges :=
    fun t b ht => ranges_withMu ht ht.linkHold
  have phased : ∀ (t : State) (p : Option Nat), t.ranges → (t.withDa { t.da with phase := p }).ranges :=
    fun t p ht => ranges_withDa ht (ht.da.congr rfl rfl rfl rfl)
  exact recomputeGrades_ranges (phased _ _ (scheduled _ _ (entered _)))

theorem releaseSlot_ranges (i : Nat) (h : s.ranges) : (releaseSlot i s).ranges := by
  have idle := setSlot_ranges i (s.slot i).toIdle h
  exact iteInduction (fun _ => idle) fun _ =>
    iteInduction (fun _ => reportCause_ranges _ (raiseStatus_ranges idle)) fun _ => raiseStatus_ranges idle

theorem coldState_ranges (s : State) : (coldState s).ranges := by
  refine ⟨Nat.zero_le _, Nat.zero_lt_succ _, Nat.zero_le _, Nat.zero_le _, ?_, ?_⟩
  · simp [coldState, Da.cold, Da.inRange]
  · simp [coldState, Cu.cold, Cu.inRange]

theorem warmState_ranges (h : s.ranges) : (warmState s).ranges := by
  refine regrade_ranges ⟨Nat.zero_le _, Nat.zero_lt_succ _, h.loud, Nat.zero_le _, ?_, by simp [Cu.cold, Cu.inRange]⟩
  refine ⟨by simp [Da.warm, Da.cold], by simp [Da.warm, Da.cold], h.da.2.2.1, ?_⟩
  simp only [Da.warm]
  split <;> simp

theorem resetLow_ranges (h : s.ranges) : (resetLow s).ranges :=
  withPins_ranges _ (setTxn_ranges _ _ (ranges_withMu
    (ranges_withRe (ranges_withLif h (Nat.zero_le _)) h.voids) h.linkHold))

end Ranges

/-! ### The ranges along a step -/

/-- Every command keeps the ranges. -/
theorem exec_ranges {c : Instr} {s t : State} (h : s.ranges) (he : exec c s = .next t) : t.ranges := by
  have kept : ∀ {f : State → State}, gated s f = .next t → (f s).ranges → t.ranges := fun he hf =>
    gated_keeps he h fun _ => hf
  have linked : ∀ {owner : State → Answer} {u : State}, linkCommand owner s = .next t → (owner s).state = u →
      u.ranges → t.ranges := fun he hu hr => linkCommand_keeps he h setTxn_ranges fun _ => hu ▸ hr
  cases c with
  | coldStart => exact Host.Outcome.next.inj he ▸ coldState_ranges s
  | warmStart =>
    obtain rfl := Host.Outcome.next.inj he
    exact iteInduction (fun _ => warmState_ranges h) fun _ => coldState_ranges s
  | rstNLow => exact Host.Outcome.next.inj he ▸ resetLow_ranges h
  | seekingEnd => exact kept he (iteInduction (fun _ => setWakePeers_ranges _ (seekingEnds_ranges h)) fun _ => h)
  | startRequest f => exact kept he (startRequest_ranges f h)
  | startPulseSeen => exact kept he (iteInduction (fun _ => setWakePeers_ranges _ (receiverPulse_ranges _ h)) fun _ => h)
  | startAccepted => exact kept he (stretchReaches_ranges h)
  | glitch => exact kept he (iteInduction (fun _ => setWakePeers_ranges _ (pulseEnds_ranges _ h)) fun _ => h)
  | round n xs b => exact kept he (iteInduction (fun _ => roundEffect_ranges n xs b h) fun _ => h)
  | stuckLine =>
    simp only [exec, execStuckLine] at he
    exact kept he (iteInduction (fun _ => h) fun _ => setWakePeers_ranges _ (stuckLineFound_ranges h))
  | stuckLineCleared => exact kept he (iteInduction (fun _ => setWakePeers_ranges _ (stuckClears_ranges h)) fun _ => h)
  | assertedPeriodWatchReading =>
    simp only [exec, execAssertedPeriodWatchReading] at he
    exact kept he (watchLine_ranges _ (driveForPeriod_ranges h))
  | rejoinTimerExpiry => exact kept he (rejoinRunsOut_ranges h)
  | localDecision => exact kept he (takeDueDecisions_ranges h)
  | senseFilteredEdge k b =>
    simp only [exec, execSenseFilteredEdge] at he
    exact kept he (filteredEdge_ranges _ _ (withPins_ranges _ h))
  | wakeTimerExpiry n => exact kept he (wakeTimerRunsOut_ranges _ h)
  | patienceExpiry i => exact kept he (patienceRunsOut_ranges _ h)
  | lingerExpiry i => exact kept he (lingerRunsOut_ranges _ h)
  | heartbeatExpiry => exact kept he (heartbeatRunsOut_ranges h)
  | settleExpiry => exact kept he (settleRunsOut_ranges h)
  | helloTimerExpiry => exact kept he (helloRunsOut_ranges h)
  | graceExpiry => exact kept he (graceRunsOut_ranges h)
  | quietDelayExpiry => exact kept he (quietDelayRunsOut_ranges h)
  | clockConfirmed => exact kept he (iteInduction (fun _ => clockConfirmed_ranges h) fun _ => h)
  | clockSettleTimeout => exact kept he (iteInduction (fun _ => clockFails_ranges h) fun _ => h)
  | clockOutOfTolerance => exact kept he (iteInduction (fun _ => clockFails_ranges h) fun _ => h)
  | linkHoldExpiry => exact kept he (linkHoldRunsOut_ranges h)
  | batteryTimerExpiry => exact kept he (batteryTimerRunsOut_ranges h)
  | quietIntervalExpiry => exact kept he (quietIntervalRunsOut_ranges h)
  | conversionEnd v => exact kept he (conversionEnds_ranges v h)
  | sampleBoundary => exact kept he (sampleBoundary_ranges h)
  | exclusionAgeOut => exact kept he (exclusionRunsOut_ranges h)
  | holdOffEnd => exact kept he (holdOffRunsOut_ranges h)
  | linkSelect => exact Host.Outcome.next.inj he ▸ linkAssert_ranges h
  | linkDeselect n => exact Host.Outcome.next.inj he ▸ linkRelease_ranges n h
  | unknownCommand b =>
    obtain rfl := Host.Outcome.next.inj he
    exact iteInduction (fun _ => setTxn_ranges _ s h) fun _ => h
  | readStationStatus | readCauseTable | readEpisodeTable | readDrainRecord => exact linked he rfl h
  | readCensus => exact linked he rfl (by split <;> exact h)
  | readAndClearEvents => exact linked he rfl (withPl_ranges _ h)
  | readConfigSection i => exact linked he rfl (by split <;> exact h)
  | writeConfigSection i b =>
    have written : ∀ b', (writeSection i b' s).state.ranges := fun b' => by
      rcases writeSection_state s i b' with hs | ⟨-, hs⟩ <;> rw [hs]
      · exact h
      · exact withPl_ranges _ h
    simp only [exec, execWriteConfigSection] at he
    split at he
    · exact linked he rfl (written _)
    · split at he
      · exact linked he rfl (written _)
      · exact Host.Outcome.next.inj he ▸ iteInduction (fun _ => setTxn_ranges _ _ h) fun _ => h
  | fix =>
    rcases fixAnswer_state s with hs | ⟨-, hs⟩
    · exact linked he hs h
    · exact linked he hs (fixConfiguration_ranges h)
  | postCause i c l p r =>
    rcases postAnswer_state s i c l p r with hs | hs | hs
    · exact linked he hs h
    · exact linked he hs (trigger_ranges _ h)
    · exact linked he hs (trigger_ranges _ (setSlot_ranges _ _ h))
  | releaseCause i =>
    rcases releaseAnswer_state s i with hs | hs
    · exact linked he hs h
    · exact linked he hs (releaseSlot_ranges _ h)
  | armTimer n c m =>
    rcases armAnswer_state s n c m with hs | hs
    · exact linked he hs h
    · exact linked he hs (setTimer_ranges _ _ h)
  | startCensus l =>
    rcases startCensusAnswer_state s l with hs | hs
    · exact linked he hs h
    · exact linked he hs (censusBegin_ranges _ h)
  | abandonCensus =>
    rcases abandonAnswer_state s with hs | hs | hs
    · exact linked he hs h
    · exact linked he hs (ranges_withCu h h.cu)
    · exact linked he hs (ranges_withCu h h.cu)
  | hello =>
    rcases helloAnswer_state s with hs | hs
    · exact linked he hs h
    · exact linked he hs (powerUpDone_ranges h)
  | park =>
    rcases parkAnswer_state s with hs | hs
    · exact linked he hs h
    · exact linked he hs (parkDone_ranges h)
  | clearCut =>
    rcases clearCutAnswer_state s with hs | hs | hs
    · exact linked he hs h
    · exact linked he hs (evaluateNeed_ranges (leaveCut_ranges h))
    · exact linked he hs (setLoud_ranges (Nat.zero_le _) h)
  | requestRefill =>
    rcases refillAnswer_state s with hs | hs
    · exact linked he hs h
    · exact linked he hs (raiseStatus_ranges (withPl_ranges _ h))
  | requestRestore =>
    rcases restoreAnswer_state s with hs | hs
    · exact linked he hs h
    · exact linked he hs (raiseStatus_ranges (withPl_ranges _ h))
  | rejoin =>
    rcases rejoinAnswer_state s with hs | hs | hs
    · exact linked he hs h
    · exact linked he hs (enterJoining_ranges h)
    · exact linked he hs (raiseJoin_ranges (withMc_ranges _ h))

/-- Settles O15. -/
theorem stepKeepsTheRanges : Obligations.StepKeepsTheRanges := by
  intro s t h he
  rw [rangesInv_iff] at h ⊢
  simp only [step] at he
  split at he
  · exact Host.Outcome.next.inj he ▸ slowPeriod_ranges h
  · exact exec_ranges (ranges_congr h (by simp)) he

end Sys2Proof.Machine

namespace Sys2Proof.Machine

/-! ## While RST_N is low (R3, log 28) -/

/-- While RST_N is low a link command finds no transaction open. -/
theorem linkCommand_of_reset {s : State} (owner : State → Answer) (h : s.pins.rstN = false) :
    linkCommand owner s = .next s := linkCommand_closed s owner (by simp [State.linkOpen, h])

theorem linkAssert_of_reset {s : State} (h : s.pins.rstN = false) :
    linkAssert s = s.withPins { s.pins with lcs := true } := by
  cases hl : s.pins.lcs
  · simp [linkAssert, hl, h]
  · simp only [linkAssert, hl, if_true]
    rw [← hl]
    rfl

theorem linkRelease_of_reset {s : State} (n : Nat) (h : s.pins.rstN = false) :
    linkRelease n s = s.withPins { s.pins with lcs := false } := by
  cases hl : s.pins.lcs
  · simp only [linkRelease, hl, if_false, Bool.false_eq_true]
    rw [← hl]
    rfl
  · simp [linkRelease, hl, h]

/-- While RST_N is low every command but the starts, RST_N_LOW and the two edges of LCS_N leaves the state as it is. -/
theorem exec_of_reset {c : Instr} {s : State} (h : s.pins.rstN = false) (hc : c ≠ .coldStart) (hw : c ≠ .warmStart)
    (hr : c ≠ .rstNLow) (hs : c ≠ .linkSelect) (hd : ∀ n, c ≠ .linkDeselect n) : exec c s = .next s := by
  have closed : s.linkOpen = false := by simp [State.linkOpen, h]
  cases c with
  | coldStart => exact absurd rfl hc
  | warmStart => exact absurd rfl hw
  | rstNLow => exact absurd rfl hr
  | linkSelect => exact absurd rfl hs
  | linkDeselect n => exact absurd rfl (hd n)
  | unknownCommand b => simp [exec, execUnknownCommand, closed]
  | writeConfigSection i b =>
    simp only [exec, execWriteConfigSection]
    (repeat' split)
    · exact linkCommand_of_reset _ h
    · exact linkCommand_of_reset _ h
    · simp [awaitArguments, closed]
  | stuckLine =>
    simp only [exec, execStuckLine]
    exact gated_of_reset s _ h
  | senseFilteredEdge k b =>
    simp only [exec, execSenseFilteredEdge]
    exact gated_of_reset s _ h
  | assertedPeriodWatchReading =>
    simp only [exec, execAssertedPeriodWatchReading]
    exact gated_of_reset s _ h
  | seekingEnd | startRequest | startPulseSeen | startAccepted | glitch | round | stuckLineCleared
  | rejoinTimerExpiry | localDecision | wakeTimerExpiry | patienceExpiry | lingerExpiry
  | heartbeatExpiry | settleExpiry | helloTimerExpiry | graceExpiry | quietDelayExpiry | clockConfirmed
  | clockSettleTimeout | clockOutOfTolerance | linkHoldExpiry | batteryTimerExpiry | quietIntervalExpiry
  | conversionEnd | sampleBoundary | exclusionAgeOut | holdOffEnd =>
    exact gated_of_reset s _ h
  | readStationStatus | readCauseTable | readEpisodeTable | readDrainRecord | readCensus | readAndClearEvents
  | readConfigSection | fix | postCause | releaseCause | armTimer | startCensus | abandonCensus | hello | park
  | clearCut | requestRefill | requestRestore | rejoin => exact linkCommand_of_reset _ h

/-- Settles O4. -/
theorem resetPinHoldsTheBlocks : Obligations.ResetPinHoldsTheBlocks := by
  intro c s h hc hw hr
  by_cases hs : c = .linkSelect
  · subst hs
    refine ⟨_, congrArg Host.Outcome.next (linkAssert_of_reset h), ?_⟩
    simp [changesOnly_iff, h]
  · by_cases hd : ∃ n, c = .linkDeselect n
    · obtain ⟨n, rfl⟩ := hd
      refine ⟨_, congrArg Host.Outcome.next (linkRelease_of_reset n h), ?_⟩
      simp [changesOnly_iff, h]
    · rw [not_exists] at hd
      refine ⟨s, exec_of_reset h hc hw hr hs hd, ?_⟩
      simp [changesOnly_iff, h]

/-! ## Event commands out of place (log 2) -/

/-- A gated effect that changes nothing in this state, and so nothing whatever RST_N. -/
theorem gated_of_eq {s : State} {f : State → State} (h : f s = s) : gated s f = .next s := by simp [gated, h]

theorem startRequest_out_of_idle {s : State} (k : Option (Fin 6)) (h : s.lif.state ≠ .idle) : startRequest k s = s := by
  simp only [startRequest]
  split <;> simp [h]

theorem highestWant_none {r : Re} (hj : r.join.held = false) (hs : r.status.held = false) (hc : r.census.held = false)
    (hr : r.rest.held = false) : r.highestWant = none := by
  simp [Re.highestWant, hj, hs, hc, hr]

theorem stretchReaches_out_of_place {s : State} (h : s.lif.state = .silent ∨ s.lif.state = .seeking
    ∨ s.lif.state = .round ∨ s.lif.state = .stuck ∨ s.lif.state = .pulse ∧ s.re.record ≠ none) :
    stretchReaches s = s := by
  rcases h with h | h | h | h | ⟨h, hr⟩
  all_goals simp_all [stretchReaches]

theorem roundStands_false {s : State} (hr : s.lif.state ≠ .round) (hc : s.lif.state ≠ .closing)
    (hp : s.lif.state ≠ .pulse ∨ s.re.record = none) : s.roundStands = false := by
  rcases hp with hp | hp <;> simp [State.roundStands, hr, hc, hp]

theorem takeDueDecisions_out_of_place {s : State}
    (h : s.isLocal = false ∨ s.mc.decisionDue = false ∧ s.mc.restDue = false) : takeDueDecisions s = s := by
  rcases h with h | ⟨hd, hr⟩
  · simp [takeDueDecisions, h]
  · simp [takeDueDecisions, hd, hr]

/-- Settles O5. -/
theorem eventOutOfPlaceChangesNothing : Obligations.EventOutOfPlaceChangesNothing := by
  intro s
  refine ⟨fun h => ?_, fun h => ⟨fun k => ?_, ?_⟩, fun hj hs hc hr k => ?_, fun h => ?_, fun h => ?_,
    fun hr hc hp n xs b => ?_, fun h => ?_, fun h => ?_, fun h => ?_, fun h => ?_, fun k b hr hb => ?_, fun n h => ?_,
    fun i h => ?_, fun i h => ?_, fun h => ?_, fun h => ?_, fun h => ?_, fun h => ?_, fun h => ?_,
    fun h => ⟨?_, ?_⟩, fun h => ?_, fun h => ?_, fun h => ?_, fun h x => ?_, fun h => ?_, fun h => ?_⟩
  · exact gated_of_eq (if_neg h)
  · exact gated_of_eq (startRequest_out_of_idle k h)
  · exact gated_of_eq (if_neg h)
  · exact gated_of_eq (by simp [startRequest, highestWant_none hj hs hc hr])
  · exact gated_of_eq (stretchReaches_out_of_place h)
  · exact gated_of_eq (if_neg (by cases hr : s.re.record <;> simp_all))
  · exact gated_of_eq (by simp [roundStands_false hr hc hp])
  · exact gated_of_eq (if_neg h)
  · exact gated_of_eq (f := fun s => if s.lif.state = .silent ∨ s.lif.state = .stuck then s
      else setWakePeers true (stuckLineFound s)) (if_pos h)
  · exact gated_of_eq (if_neg (by simp; tauto))
  · exact gated_of_eq (takeDueDecisions_out_of_place h)
  · simp only [exec, execSenseFilteredEdge]
    rw [gated_of_rstN s _ hr]
    exact congrArg Host.Outcome.next (if_pos hb)
  · exact gated_of_eq (by simp [wakeTimerRunsOut, h])
  · exact gated_of_eq (if_neg (by tauto))
  · exact gated_of_eq (if_neg h)
  · exact gated_of_eq (by simp [heartbeatRunsOut, h])
  · exact gated_of_eq (by simp [settleRunsOut, h])
  · exact gated_of_eq (if_neg (by rcases h with h | h | h <;> simp [h]))
  · exact gated_of_eq (if_neg (by rcases h with h | h | h <;> simp [h]))
  · exact gated_of_eq (by simp [quietDelayRunsOut, h])
  · exact gated_of_eq (if_neg (by simp [h]))
  · exact gated_of_eq (if_neg h)
  · exact gated_of_eq (if_neg h)
  · exact gated_of_eq (by simp [batteryTimerRunsOut, h])
  · exact gated_of_eq (by simp [quietIntervalRunsOut, h])
  · exact gated_of_eq (by simp [conversionEnds, h])
  · exact gated_of_eq (by simp [sampleBoundary, h])
  · exact gated_of_eq (by simp [exclusionRunsOut, h])

/-! ## The starts and the reset pin -/

theorem firstSamples_filtered (sns : List Bool) : (Sense.firstSamples sns).map (·.filtered) = sns := by
  simp [Sense.firstSamples, Function.comp_def]

/-- Settles O6. -/
theorem coldStartGivesTheStartValues : Obligations.ColdStartGivesTheStartValues := by
  intro s
  refine ⟨coldState s, rfl, ?_⟩
  have floor : (coldState s).floor = 0 := show max (topExclusive []) (Store.defaults.floorOf 0) = 0 by decide
  simp only [floor]
  simp [coldState, Lif.cold, Re.cold, Want.clear, Mc.cold, Ct.cold, Cause.disabled, WakeTimer.stopped, Ev.cold, Mpc.cold,
    Mu.cold, Mu.anyRequest, Da.cold, Cu.cold, Pl.cold, firstSamples_filtered]

/-- A warm start keeps the membership state of a fixed station fixed (R41). -/
theorem warmState_settings (s : State) : (warmState s).settings = s.pl.store := by
  rw [settings_of_fixed]
  · simp [warmState]
  · simp [State.fixed, warmState, Mc.warm]

theorem tenths_isSome (n : Nat) : (tenths n).isSome = true := rfl

@[simp] theorem regrade_settings (s : State) : (regrade s).settings = s.settings := settings_congr _ _ (by simp) (by simp)

theorem regrade_balanceGradeNow (s : State) : (regrade s).balanceGradeNow = s.balanceGradeNow := by
  have balance : (regrade s).balance = s.balance := by rw [State.balance, State.balance, regrade_settings, regrade_spent]
  rw [State.balanceGradeNow, State.balanceGradeNow, balance, regrade_settings]

theorem regrade_rateGradeNow (s : State) : (regrade s).rateGradeNow = s.rateGradeNow := by
  have filtered : (regrade s).da.filtered = s.da.filtered := by simp [regrade]
  simp [State.rateGradeNow, filtered]

/-- The grades after a recomputation are those that hold then (R164). -/
theorem regrade_grades (s : State) : (regrade s).da.balanceGrade = (regrade s).balanceGradeNow
    ∧ (regrade s).da.rateGrade = (regrade s).rateGradeNow
    ∧ (regrade s).da.pressure = max (max (regrade s).balanceGradeNow (regrade s).rateGradeNow)
        (if (regrade s).mu.batteryLow then 7 else 0) := by
  rw [regrade_balanceGradeNow, regrade_rateGradeNow, regrade_pressure]
  refine ⟨?_, ?_, by simp⟩ <;> simp [regrade]

theorem warmState_da (s : State) : (warmState s).da = { s.da.warm s.mpc.raila with
    balanceGrade := (warmState s).da.balanceGrade, rateGrade := (warmState s).da.rateGrade
    pressure := (warmState s).da.pressure } := by
  simp [warmState, regrade]

/-- Settles O7. -/
theorem warmStartGivesTheStartValues : Obligations.WarmStartGivesTheStartValues := by
  intro s
  refine ⟨fun h => ?_, fun h => ⟨warmState s, ?_, ?_⟩⟩
  · simp [exec, execWarmStart, execColdStart, h]
  · simp [exec, execWarmStart, h]
  · have floor : (warmState s).floor = s.pl.store.floorOf 0 := by
      rw [State.floor, State.austerity, warmState_settings]
      simp [State.topLevel, topExclusive, warmState, Ev.cold]
    have grades : (warmState s).da.balanceGrade = (warmState s).balanceGradeNow
        ∧ (warmState s).da.rateGrade = (warmState s).rateGradeNow
        ∧ (warmState s).da.pressure = max (max (warmState s).balanceGradeNow (warmState s).rateGradeNow)
            (if (warmState s).mu.batteryLow then 7 else 0) := regrade_grades _
    obtain ⟨balance, rate, pressure⟩ := grades
    simp only [floor, balance, rate, pressure, true_and]
    rw [warmState_da]
    simp [warmState, Lif.cold, Re.cold, Want.clear, Mc.warm, Mc.cold, Ct.warm, Ev.cold, Mpc.warm, Mu.warm, Mu.cold,
      Mu.anyRequest, Da.warm, Da.cold, Cu.cold, Pl.cold, firstSamples_filtered, Store.batteryInterval]
    cases s.mpc.raila <;> simp [tenths_isSome]

/-- Settles O8. -/
theorem resetLowReleasesTheLine : Obligations.ResetLowReleasesTheLine := by
  intro s
  refine ⟨resetLow s, rfl, ?_⟩
  simp [resetLow, Lif.leave, Mu.anyRequest, setTxn, changesOnly_iff]

/-- Settles O9. -/
theorem resetSatisfiesTheInvariants : Obligations.ResetSatisfiesTheInvariants := by
  refine ⟨rfl, ?_, coldState_lineInv .reset, ?_, ?_, (rangesInv_iff _).2 (coldState_ranges .reset)⟩
  · simp [State.tableInv, tableOk, State.reset, Ev.cold]
  · simp only [State.causesInv]
    decide
  · simp [State.censusInv, Cu.listOk, State.reset, Cu.cold, Re.cold]

end Sys2Proof.Machine

namespace Sys2Proof.Machine

/-! ## Line faults and their reports (R7, R13, R15, R47 to R49) -/

/-- What a report leaves at a station that it takes to Degraded, or finds there (R47 to R49). -/
def State.degradedBy (f : LineFault) (t : State) : Prop :=
  t.mc.state = .degraded ∧ t.mc.lastFault = some f ∧ t.mc.rejoin = some 128 ∧ t.eventSet .lineTrouble = true

theorem reportFault_degrades {f : LineFault} {s : State} (hf : f ≠ .lostSync)
    (h : s.mc.state = .member ∨ s.mc.state = .joining ∨ s.mc.state = .degraded) : (reportFault f s).degradedBy f := by
  obtain ⟨hs, hl, hj, -, -, he⟩ := reportFault_spec f s (by tauto)
  exact ⟨hs, hl, hj, he⟩

theorem reportFault_degrades_member {f : LineFault} {s : State} (h : s.mc.state = .member) :
    (reportFault f s).degradedBy f := by
  obtain ⟨hs, hl, hj, -, -, he⟩ := reportFault_spec f s (.inl h)
  exact ⟨hs, hl, hj, he⟩

@[simp] theorem reportFault_counter (f : LineFault) (s : State) : (reportFault f s).mc.counter = s.mc.counter := by
  simp only [reportFault]
  (repeat' split) <;> simp [memberToDegraded, joiningToDegraded, degradedFault]

theorem pulseDriveFault_degrades {s : State}
    (h : s.mc.state = .member ∨ s.mc.state = .joining ∨ s.mc.state = .degraded) :
    (pulseDriveFault s).degradedBy .driveFault := reportFault_degrades (by decide) (by simpa using h)

/-- A stuck line found outside Silent and Stuck is reported on the line released with no round (R15). -/
theorem stuckLineFound_eq {s : State} (h : s.lif.state ≠ .silent) (k : s.lif.state ≠ .stuck) :
    stuckLineFound s = reportFault .stuckLine (abandonRound (s.withLif { s.lif.leave .stuck with
      idleRun := 0, assertedRun := max s.lif.assertedRun Config.stuckPeriods })) := by
  simp [stuckLineFound, h, k]

theorem stuckLineFound_degrades {s : State} (h : s.lif.state ≠ .silent) (k : s.lif.state ≠ .stuck)
    (hm : s.mc.state = .member ∨ s.mc.state = .joining ∨ s.mc.state = .degraded) :
    (stuckLineFound s).degradedBy .stuckLine := by
  rw [stuckLineFound_eq h k]
  exact reportFault_degrades (by decide) (by simpa using hm)

theorem lostSync_degrades {s : State} (h : s.mc.state = .member) : (lostSync s).degradedBy .lostSync :=
  reportFault_degrades_member (by simpa using h)

/-- A Joining station that loses synchronisation stays Joining, its wants kept without their marks (R50, R36). -/
theorem lostSync_joining {s : State} (h : s.mc.state = .joining) : (lostSync s).mc = s.mc
    ∧ (lostSync s).re = { s.re.clearMarks with record := none, named := none } := by
  simp [lostSync, reportFault, h, abandonRound]

/-! ## The wake line's commands (R6 to R8, R15) -/

/-- Settles O17. -/
theorem seekingEndEntersIdle : Obligations.SeekingEndEntersIdle := by
  intro s hr hs
  exact (gated_of_rstN s _ hr).trans (congrArg Host.Outcome.next (if_pos hs))

/-- The highest-ranked want, where one is held (R23, R32). -/
theorem highestWant_of_held {r : Re} (h : r.join.held = true ∨ r.status.held = true ∨ r.census.held = true
    ∨ r.rest.held = true) : r.highestWant = some (if r.join.held then .join else if r.status.held then .status
      else if r.census.held then .census else .rest) := by
  simp only [Re.highestWant]
  grind

/-- Settles O18. -/
theorem startRequestDrivesThePulse : Obligations.StartRequestDrivesThePulse := by
  intro s w hr hs hw hh
  have want : s.re.highestWant = some w := hw ▸ highestWant_of_held hh
  have started : ∀ f, exec (.startRequest f) s = .next (startRequest f s) := fun f => gated_of_rstN s _ hr
  refine ⟨?_, fun hm k => ⟨_, started (some k), ?_⟩⟩
  · rw [started]
    simp only [startRequest, want, hs, if_true]
    rfl
  · obtain ⟨hl, hrec⟩ := pulseDriveFault_spec (pulseBegins w s)
    obtain ⟨h1, h2, h3, h4⟩ := pulseDriveFault_degrades (s := pulseBegins w s) (by simpa using hm)
    simp only [startRequest, want, hs, if_true, hl, hrec, h1, h2, h3, h4]
    simp [Lif.leave, pulseDriveFault]

/-! ### The end of a pulse (R7 to R9) -/

theorem checkPoint_iff (l : Lif) (n : Nat) : l.checkPoint n = true ↔ l.starter = true ∧ n < 48 ∧ n % 8 = 4 := by
  rw [Lif.checkPoint, Bool.and_eq_true, Bool.and_eq_true, decide_eq_true_eq, beq_iff_eq, and_assoc, Config.pulsePeriods]

theorem pulseEnds_at_checkPoint {s : State} {n : Nat} (h : s.lif.starter = true ∧ n < 48 ∧ n % 8 = 4) :
    pulseEnds n s = pulseDriveFault s := if_pos ((checkPoint_iff _ _).2 h)

theorem pulseEnds_accepted {s : State} {n : Nat} (h : ¬ (s.lif.starter = true ∧ n < 48 ∧ n % 8 = 4))
    (hr : s.re.record.isSome = true) : pulseEnds n s = releaseEdge n s :=
  (if_neg (mt (checkPoint_iff _ _).1 h)).trans (if_pos hr)

theorem pulseEnds_not_accepted {s : State} {n : Nat} (h : ¬ (s.lif.starter = true ∧ n < 48 ∧ n % 8 = 4))
    (hr : s.re.record = none) : pulseEnds n s = glitchEnds s :=
  (if_neg (mt (checkPoint_iff _ _).1 h)).trans (if_neg (by simp [hr]))

/-- Settles O19. -/
theorem pulseSeenAndGlitch : Obligations.PulseSeenAndGlitch := by
  intro s hr
  have glitched : s.lif.state = .pulse → s.re.record = none →
      exec .glitch s = .next (setWakePeers false (pulseEnds s.lif.stretch s)) := fun hp hn =>
    (gated_of_rstN s _ hr).trans (congrArg Host.Outcome.next (if_pos ⟨hp, by simp [hn]⟩))
  refine ⟨fun hi => ?_, fun hp hn hc => ⟨_, glitched hp hn, ?_⟩, fun hp hn hs hl hc => ⟨_, glitched hp hn, ?_⟩⟩
  · exact (gated_of_rstN s _ hr).trans (congrArg Host.Outcome.next (if_pos hi))
  · rw [pulseEnds_not_accepted hc hn]
    simp [setWakePeers, glitchEnds, Lif.leave, changesOnly_iff]
  · obtain ⟨hlif, hrec⟩ := pulseDriveFault_spec s
    rw [pulseEnds_at_checkPoint ⟨hs, hl, hc⟩]
    simp only [setWakePeers_frame, State.eventSet, hlif, hrec, true_and]
    exact ⟨rfl, rfl, rfl, by simp [setWakePeers], by simp, fun hm => pulseDriveFault_degrades hm⟩

/-- Settles O21. -/
theorem stuckLineAndItsEnd : Obligations.StuckLineAndItsEnd := by
  intro s hr
  refine ⟨fun hs hk => ⟨setWakePeers true (stuckLineFound s), ?_, ?_⟩, fun hs => ?_⟩
  · simp only [exec, execStuckLine]
    rw [gated_of_rstN s _ hr]
    exact congrArg Host.Outcome.next (if_neg (by tauto))
  · obtain ⟨h1, h2, -, h4⟩ := stuckLineFound_spec s hs hk
    simp only [setWakePeers_frame, State.eventSet, h1, h2, h4, true_and]
    refine ⟨?_, by simp [setWakePeers], ?_, fun hm => stuckLineFound_degrades hs hk hm⟩
    · simp [stuckLineFound_eq hs hk, Config.stuckPeriods]
    · simp [stuckLineFound_eq hs hk]
  · exact (gated_of_rstN s _ hr).trans (congrArg Host.Outcome.next (if_pos hs))

/-! ## A start accepted, and the release edge (R8, R9, R13, R17) -/

theorem openRecord_re (s : State) : ∃ r, (openRecord s).re = { s.re with record := some r }
    ∧ r.role = (if s.mc.state = .member then .member else .nonMember) ∧ r.starter = s.lif.starter
    ∧ r.named = (if r.starter then s.re.named else none) ∧ r.rtype = none ∧ r.invalid = false ∧ r.mismatch = false
    ∧ r.results = [] ∧ r.seg = 0 ∧ r.bit = 0 :=
  ⟨_, rfl, rfl, rfl, rfl, rfl, rfl, rfl, rfl, rfl, rfl⟩

/-- Entry to local mode stops the heartbeat (R107), and a decision in local mode does not start it (R104). -/
theorem setNet_heartbeat_local {s : State} (n : NetState) (h : s.isLocal = true) :
    (setNet n s).ev.heartbeat = none := by
  simp only [setNet]
  split <;> simp [h]

theorem setTable_heartbeat (t : List Entry) (s : State) : (setTable t s).ev.heartbeat = s.ev.heartbeat := by
  simp only [setTable]
  split <;> simp

theorem setAlarm_heartbeat (a : Alarms) (s : State) : (setAlarm a s).ev.heartbeat = s.ev.heartbeat := by
  simp only [setAlarm]
  split <;> simp

theorem isLocal_congr {s t : State} (h : t.mc.state = s.mc.state) : t.isLocal = s.isLocal := by
  rw [State.isLocal, State.isLocal, h]

theorem evStatus_heartbeat_local {s : State} (v : StatusValues) (d : HoldMap) (o : Option Half)
    (h : s.isLocal = true) : (evStatus v d o s).ev.heartbeat = none := by
  simp only [evStatus, setTable_heartbeat, setAlarm_heartbeat]
  exact setNet_heartbeat_local _ (by rw [← h]; exact isLocal_congr (by simp))

theorem evRest_heartbeat_local {s : State} (m d : HoldMap) (b : Bool) (h : s.isLocal = true) :
    (evRest m d b s).ev.heartbeat = none := by
  simp only [evRest, setTable_heartbeat]
  exact setNet_heartbeat_local _ h

theorem localStatus_heartbeat {s : State} (h : s.isLocal = true) : (localStatus s).ev.heartbeat = none := by
  have offered : (offerCauses (s.withMc { s.mc with decisionDue := false })).isLocal = true := by
    rw [← h]
    exact isLocal_congr (by simp)
  simp only [localStatus, State.withPl_ev, mpcStatus_frame, unfreeze_frame]
  split <;> simp [evStatus_heartbeat_local _ _ _ offered]

theorem enterLocal_heartbeat {s : State} (h : s.isLocal = true) : (enterLocal s).ev.heartbeat = none := by
  have decided := localStatus_heartbeat (s := evLocalEntry s) (by rw [← h]; exact isLocal_congr (by simp))
  have still : (localStatus (evLocalEntry s)).isLocal = true := by
    rw [← h]
    exact isLocal_congr (by simp)
  simp only [enterLocal]
  split
  · simpa [localRest] using evRest_heartbeat_local _ _ _ still
  · exact decided

theorem reportFault_member_heartbeat {f : LineFault} {s : State} (h : s.mc.state = .member) :
    (reportFault f s).ev.heartbeat = none := by
  simp only [reportFault, h, memberToDegraded, raiseEvent_frame]
  exact enterLocal_heartbeat (by simp [State.isLocal, Membership.isLocal])

/-- The part that runs is the gap at the beginning of every layout (R10). -/
theorem current_at_start {r : RoundRecord} (h : r.seg = 0) : r.current = .gap := by
  simp [RoundRecord.current, layoutOf, h]

/-- The first bit of a gap: nothing is driven, whatever the record (R10). -/
theorem bitBegin_gap {s : State} {r : RoundRecord} (hr : s.re.record = some r) (hb : r.bit = 0) (hg : r.current = .gap) :
    bitBegin s = (setRecord (some { r with begun := true, drives := false, value := [], lost := false, samples := [] })
      s).withLif { s.lif with drive := false } := by
  have drive : segDrive s r = none := by simp [segDrive, hg]
  have noted : ∀ q : RoundRecord, q.rtype = r.rtype → q.newLevels = r.newLevels → q.seg = r.seg →
      q.noteDriven s = q := fun q h1 h2 h3 => by
    have hq : q.current = .gap := by rw [← hg, RoundRecord.current, RoundRecord.current, h1, h2, h3]
    simp [RoundRecord.noteDriven, hq]
  simp [bitBegin, hr, hb, segBegin, hg, drive, noted, setRecord, RoundRecord.driveNow]

theorem execRound_of_stands {s : State} {n : Nat} {xs : List Bool} {b : Bool} (hr : s.pins.rstN = true)
    (hs : s.roundStands = true) : exec (.round n xs b) s = .next (roundEffect n xs b s) :=
  (gated_of_rstN s _ hr).trans (congrArg Host.Outcome.next (if_pos hs))

/-- ROUND with no samples, after an accepted pulse whose end does not stand past a bit's sample: the end of the pulse
alone. -/
theorem roundEffect_pulse {s : State} {r : RoundRecord} {n : Nat} (hp : s.lif.state = .pulse)
    (hr : s.re.record = some r)
    (h : ¬ ((pulseEnds (max n s.lif.stretch) s).lif.state = .round
      ∧ Config.samplePeriodOfBit ≤ (pulseEnds (max n s.lif.stretch) s).lif.period)) :
    roundEffect n [] false s = (pulseEnds (max n s.lif.stretch) s).withPins { s.pins with
      wakePeers := s.pins.wakePeers && (pulseEnds (max n s.lif.stretch) s).lif.state == .stuck } := by
  have follows : followRound n [] s = pulseEnds (max n s.lif.stretch) s := by
    simp only [followRound, runBits, hp, hr, Option.isSome_some, and_self, if_true, h, if_false]
  simp only [roundEffect, follows, pulseEnds_frame, Bool.false_eq_true, if_false]

/-- The release edge of a record that has not begun: Round in the first period of the gap, nothing driven (R9). -/
theorem releaseEdge_opens {s : State} {r : RoundRecord} {n : Nat} (hr : s.re.record = some r) (hs : r.seg = 0)
    (hb : r.bit = 0) (hn : n < 161) : releaseEdge n s = (setRecord (some { r with
      begun := true, drives := false, value := [], lost := false, samples := [] }) s).withLif { s.lif with
        state := .round, drive := false, assertedRun := 0, stretch := 0, starter := false, driven := 0, bitPos := 0
        period := 1, framing := decide (64 < n), listener := false } := by
  have short : ¬ Config.stuckPeriods ≤ n := by simpa [Config.stuckPeriods] using hn
  rw [releaseEdge, if_neg short]
  have began := fun l : Lif => bitBegin_gap (s := s.withLif l) hr hb (current_at_start hs)
  simp only [began]
  rfl

/-- Settles O20. -/
theorem startAcceptedOpensTheRecord : Obligations.StartAcceptedOpensTheRecord := by
  refine ⟨fun s hr => ⟨fun h => ?_, fun h => ?_⟩, fun s r n m hr hp hrec hs hb hm => ?_⟩
  · have accepted : ∀ u : State, stretchReaches s = startIsAccepted u → u.re = s.re → u.mc = s.mc →
        u.lif.state = .pulse → u.lif.starter = (s.lif.state == .pulse && s.lif.starter) →
        changesOnly [.lif, .re] s u →
        ∃ t r, exec .startAccepted s = .next t ∧ t.re.record = some r ∧ t.lif.state = .pulse ∧ 32 ≤ t.lif.stretch
          ∧ r.role = (if s.mc.state = .member then .member else .nonMember)
          ∧ r.starter = (s.lif.state == .pulse && s.lif.starter)
          ∧ r.named = (if r.starter then s.re.named else none)
          ∧ r.rtype = none ∧ r.invalid = false ∧ r.mismatch = false ∧ r.results = [] ∧ r.seg = 0 ∧ r.bit = 0
          ∧ t.re = { s.re with record := some r } ∧ changesOnly [.lif, .re] s t := by
      intro u hu hre hmc hl hst hf
      have frame := (changesOnly_iff _ _ _).1 hf
      simp only [List.mem_cons, List.not_mem_nil, or_false] at frame
      refine ⟨startIsAccepted u, _, (gated_of_rstN s _ hr).trans (congrArg _ hu), rfl, hl, Nat.le_max_right .., ?_⟩
      refine ⟨by rw [← hmc]; rfl, hst, by rw [← hre]; rfl, rfl, rfl, rfl, rfl, rfl, rfl, by rw [← hre]; rfl, ?_⟩
      simp_all [changesOnly_iff]
    rcases h with ⟨hp, hn⟩ | hi
    · exact accepted s (by simp [stretchReaches, hp, hn]) rfl rfl hp (by simp [hp]) (by simp [changesOnly_iff])
    · exact accepted (receiverPulse s.lif.assertedRun s) (by simp [stretchReaches, hi]) rfl rfl rfl
        (by simp [receiverPulse, hi]) (by simp [changesOnly_iff])
  · have lost : exec .startAccepted s = .next (lostSync (s.withLif { s.lif with assertedRun := s.lif.runAtStart })) :=
      (gated_of_rstN s _ hr).trans (by simp [stretchReaches, h])
    obtain ⟨hl, hn⟩ := lostSync_spec (s.withLif { s.lif with assertedRun := s.lif.runAtStart })
    refine ⟨_, lost, by rw [hl]; rfl, by rw [hl], by rw [hl]; rfl, hn, fun hm => ?_, fun hj => ?_⟩
    · obtain ⟨h1, h2, h3, h4⟩ := lostSync_degrades (s := s.withLif { s.lif with assertedRun := s.lif.runAtStart }) hm
      exact ⟨h1, h2, h3, h4, reportFault_member_heartbeat (by simpa using hm)⟩
    · obtain ⟨h1, h2⟩ := lostSync_joining (s := s.withLif { s.lif with assertedRun := s.lif.runAtStart }) hj
      exact ⟨h1, by rw [h2]; rfl⟩
  · have ends : exec (.round n [] false) s = .next (roundEffect n [] false s) :=
      execRound_of_stands hr (by simp [State.roundStands, hp, hrec])
    have taken := fun h => ends.trans (congrArg Host.Outcome.next (roundEffect_pulse (n := n) hp hrec h))
    rw [← hm] at taken
    refine ⟨fun hlt hc => ?_, fun hst hlt hc => ?_, fun hle => ?_⟩
    · rw [pulseEnds_accepted hc (by simp [hrec]), releaseEdge_opens hrec hs hb hlt] at taken
      refine ⟨_, taken (by simp [Config.samplePeriodOfBit]), rfl, rfl, ?_, ?_⟩
      · simp
      · simp [changesOnly_iff]
    · rw [pulseEnds_at_checkPoint ⟨hst, hlt, hc⟩] at taken
      obtain ⟨hl, hn⟩ := pulseDriveFault_spec s
      refine ⟨_, taken (by simp [hl, Lif.leave]), ?_⟩
      simp only [State.withPins_lif, hl, true_and]
      exact ⟨rfl, rfl, hn, fun hm => pulseDriveFault_degrades hm⟩
    · have hc : ¬ (s.lif.starter = true ∧ m < 48 ∧ m % 8 = 4) := by omega
      have stuck : releaseEdge m s = stuckLineFound s := if_pos hle
      obtain ⟨h1, h2, -, h4⟩ := stuckLineFound_spec s (by simp [hp]) (by simp [hp])
      rw [pulseEnds_accepted hc (by simp [hrec]), stuck] at taken
      refine ⟨_, taken (by simp [h1]), h1, h2, h4, fun hm => ?_⟩
      obtain ⟨d1, d2, -⟩ := stuckLineFound_degrades (by simp [hp]) (by simp [hp]) hm
      exact ⟨d1, d2⟩

end Sys2Proof.Machine

namespace Sys2Proof.Machine

/-! ## The period watch, by LIF state (R2, R5, R6, R8, R15) -/

theorem releasedReading_lif (s : State) : (releasedReading s).lif = { s.lif with
    idleRun := min (s.lif.idleRun + 1) 65535, assertedRun := 0, stretch := 0 } := rfl

theorem watchLine_silent {s : State} (x : Bool) (h : s.lif.state = .silent) : watchLine x s = s := by
  simp only [watchLine, h]

theorem watchLine_seeking_released {s : State} (h : s.lif.state = .seeking) :
    (watchLine false s).lif.idleRun = min (s.lif.idleRun + 1) 65535 ∧ (watchLine false s).lif.assertedRun = 0
      ∧ (watchLine false s).lif.state = if 1535 ≤ s.lif.idleRun then .idle else .seeking := by
  have idle : (releasedReading s).lif.idleRun = min (s.lif.idleRun + 1) 65535 := rfl
  have length : Config.seekingPeriods = 1536 := rfl
  simp only [watchLine, h, watchSeeking, Bool.false_eq_true, if_false]
  by_cases hi : Config.seekingPeriods ≤ (releasedReading s).lif.idleRun
  · rw [if_pos hi, if_pos (by omega)]
    simp only [seekingEnds, State.withLif_lif, and_true]
    omega
  · rw [if_neg hi, if_neg (by omega)]
    exact ⟨idle, rfl, h⟩

theorem watchLine_idle_released {s : State} (h : s.lif.state = .idle) :
    watchLine false s = releasedReading s := by
  simp [watchLine, h, watchIdle]

/-- An asserted reading in Idle after an idle run of 32 periods or more: the first of a possible start (R8). -/
theorem watchLine_idle_asserted {s : State} (h : s.lif.state = .idle) (hi : 32 ≤ s.lif.idleRun) :
    watchLine true s = receiverPulse 1 s := by
  simp [watchLine, h, watchIdle, Config.startPeriods, hi]

/-- An asserted reading in Seeking, and in Idle after an idle run of under 32 periods, begins no pulse (R5, R8). -/
theorem watchLine_no_pulse {s : State} (h : s.lif.state = .seeking ∨ s.lif.state = .idle ∧ s.lif.idleRun < 32) :
    watchLine true s = assertedReading s := by
  rcases h with h | ⟨h, hi⟩
  · simp [watchLine, h, watchSeeking]
  · simp [watchLine, h, watchIdle, Config.startPeriods, Nat.not_le.2 hi]

theorem watchLine_stuck_asserted {s : State} (h : s.lif.state = .stuck) : watchLine true s
    = s.withLif { s.lif with idleRun := 0, assertedRun := s.lif.assertedRun + 1 } := by
  simp [watchLine, h, assertedReading, stuckLineFound]

theorem watchLine_stuck_released {s : State} (h : s.lif.state = .stuck) : watchLine false s = stuckClears s := by
  simp [watchLine, h]

/-! ## One slow-clock period (log 3) -/

/-- The states and counts of the LIF in which nothing before the reading at the end of a period changes the LIF: no round
waits to be closed, no start can be asked for, and no drive value is set (R7, R10, R12, R32). -/
def Lif.still (l : Lif) : Prop :=
  l.state = .silent ∨ l.state = .seeking ∨ l.state = .stuck ∨ l.state = .idle ∧ l.idleRun < 96

theorem closeRound_still {t : State} (h : t.lif.still) : (closeRound t).lif = t.lif := by
  rw [(closeRound_spec t).1]
  rcases h with h | h | h | ⟨h, -⟩ <;> simp [h]

theorem requestDue_still {t : State} (h : t.lif.still) : (requestDue t).lif = t.lif := by
  have early : ¬ (t.lif.state = .idle ∧ startOffset t.mc.number ≤ t.lif.idleRun) := by
    have offset := (startOffset_bounds t.mc.number).1
    rcases h with h | h | h | ⟨-, h⟩
    · simp [h]
    · simp [h]
    · simp [h]
    · omega
  simp [requestDue, early]

theorem driveForPeriod_still {t : State} (h : t.lif.still) : driveForPeriod t = t := by
  rcases h with h | h | h | ⟨h, -⟩ <;> simp [driveForPeriod, h]

theorem periodBegins_still {s : State} (due : Bool) (h : s.lif.still) : (inOrder (periodBegins due) s).lif = s.lif := by
  refine inOrder_induct s (fun t => t.lif = s.lif) _ (fun f hf t ht => ?_) rfl
  have still : t.lif.still := ht ▸ h
  refine Eq.trans ?_ ht
  simp only [periodBegins, List.cons_append, List.mem_append, List.mem_cons, List.not_mem_nil, or_false] at hf
  rcases hf with rfl | hf | rfl | rfl | rfl
  · exact closeRound_still still
  · exact (periodCounts_keep_lif f hf t).1
  · simp
  · exact requestDue_still still
  · rw [driveForPeriod_still still]

theorem inOrder_tickCounts_lif (s : State) : (inOrder tickCounts s).lif = s.lif :=
  inOrder_keeps s State.lif _ fun f hf t => (tickCounts_keep_lif f hf t).1

/-- A part of the state that no effect of a period touches. -/
theorem inOrder_period_frame (due : Bool) (s : State) :
    (inOrder (periodBegins due) s).pins = s.pins ∧ (inOrder (periodBegins due) s).time = s.time
      ∧ (inOrder tickCounts s).pins = s.pins := by
  refine ⟨inOrder_keeps s State.pins _ ?_, inOrder_keeps s State.time _ ?_, inOrder_keeps s State.pins _ ?_⟩
  · simp [periodBegins, periodCounts]
  · simp [periodBegins, periodCounts]
  · simp [tickCounts]

/-- The LIF after the end of a period is what the reading of the line leaves. -/
theorem inOrder_periodEnds_lif (s : State) : (inOrder periodEnds s).lif = (watchLine s.line s).lif := by
  simp [periodEnds, inOrder]

/-- A period of a LIF that is still until its end: the reading of the line alone. -/
theorem slowPeriod_still {s : State} (hr : s.pins.rstN = true) (h : s.lif.still) :
    ∃ v : State, v.lif = s.lif ∧ (slowPeriod s).lif = (watchLine (s.lif.drive || s.pins.wakePeers) v).lif := by
  have begins := periodBegins_still (s := s.withTime (s.time + 1)) (s.mc.decisionDue || s.mc.restDue) h
  have pins := (inOrder_period_frame (s.mc.decisionDue || s.mc.restDue) (s.withTime (s.time + 1))).1
  simp only [slowPeriod, hr, if_true, inOrder_periodEnds_lif]
  generalize inOrder (periodBegins (s.mc.decisionDue || s.mc.restDue)) (s.withTime (s.time + 1)) = u at begins pins
  have counted : ∀ v : State, v.lif = u.lif → v.pins = u.pins → v.lif = s.lif
      ∧ v.line = (s.lif.drive || s.pins.wakePeers) := fun v hl hp => by
    refine ⟨hl.trans begins, ?_⟩
    rw [State.line, hl, hp, begins, pins]
    rfl
  split
  · obtain ⟨h1, h2⟩ := counted _ (inOrder_tickCounts_lif u) (inOrder_period_frame true u).2.2
    exact ⟨_, h1, by rw [h2]⟩
  · obtain ⟨h1, h2⟩ := counted u rfl rfl
    exact ⟨_, h1, by rw [h2]⟩

/-- What the period watch counts in a period, by LIF state, the line not driven by this station. -/
theorem slowPeriod_counts {s : State} (hr : s.pins.rstN = true) (hd : s.lif.drive = false) :
    (s.lif.state = .silent → (slowPeriod s).lif = s.lif)
    ∧ (s.lif.state = .seeking → s.pins.wakePeers = false → (slowPeriod s).lif.idleRun = min (s.lif.idleRun + 1) 65535
      ∧ (slowPeriod s).lif.assertedRun = 0
      ∧ (slowPeriod s).lif.state = (if 1535 ≤ s.lif.idleRun then .idle else .seeking))
    ∧ (s.lif.state = .idle → s.lif.idleRun < 96 → s.pins.wakePeers = false →
      (slowPeriod s).lif.state = .idle ∧ (slowPeriod s).lif.idleRun = s.lif.idleRun + 1
      ∧ (slowPeriod s).lif.assertedRun = 0)
    ∧ (s.lif.state = .idle → 32 ≤ s.lif.idleRun → s.lif.idleRun < 96 → s.pins.wakePeers = true →
      (slowPeriod s).lif.state = .pulse ∧ (slowPeriod s).lif.starter = false ∧ (slowPeriod s).lif.stretch = 1
      ∧ (slowPeriod s).lif.idleRun = 0 ∧ (slowPeriod s).lif.assertedRun = 1)
    ∧ (s.lif.state = .seeking ∨ s.lif.state = .idle ∧ s.lif.idleRun < 32 → s.pins.wakePeers = true →
      s.lif.assertedRun < 160 → (slowPeriod s).lif.state = s.lif.state ∧ (slowPeriod s).lif.idleRun = 0
        ∧ (slowPeriod s).lif.assertedRun = s.lif.assertedRun + 1)
    ∧ (s.lif.state = .stuck → s.pins.wakePeers = true → (slowPeriod s).lif.state = .stuck
      ∧ (slowPeriod s).lif.assertedRun = s.lif.assertedRun + 1)
    ∧ (s.lif.state = .stuck → s.pins.wakePeers = false → (slowPeriod s).lif.state = .seeking
      ∧ (slowPeriod s).lif.idleRun = 0 ∧ (slowPeriod s).lif.assertedRun = 0) := by
  have read : s.lif.still → ∃ v : State, v.lif = s.lif ∧ (slowPeriod s).lif = (watchLine s.pins.wakePeers v).lif := by
    simpa only [hd, Bool.false_or] using slowPeriod_still hr
  refine ⟨fun h => ?_, fun h hw => ?_, fun h hi hw => ?_, fun h hi hi' hw => ?_, fun h hw ha => ?_, fun h hw => ?_,
    fun h hw => ?_⟩
  · obtain ⟨v, hv, hl⟩ := read (.inl h)
    rw [hl, watchLine_silent _ (hv ▸ h), hv]
  · obtain ⟨v, hv, hl⟩ := read (.inr (.inl h))
    rw [hl, hw, ← hv]
    exact watchLine_seeking_released (hv ▸ h)
  · obtain ⟨v, hv, hl⟩ := read (.inr (.inr (.inr ⟨h, hi⟩)))
    rw [hl, hw, watchLine_idle_released (hv ▸ h), releasedReading_lif, hv]
    exact ⟨h, by simp only; omega, rfl⟩
  · obtain ⟨v, hv, hl⟩ := read (.inr (.inr (.inr ⟨h, hi'⟩)))
    rw [hl, hw, watchLine_idle_asserted (hv ▸ h) (hv ▸ hi)]
    exact ⟨rfl, rfl, rfl, rfl, rfl⟩
  · obtain ⟨v, hv, hl⟩ := read (by rcases h with h | ⟨h, hi⟩; exacts [.inr (.inl h), .inr (.inr (.inr ⟨h, by omega⟩))])
    rw [hl, hw, watchLine_no_pulse (hv ▸ h), assertedReading_runs v (hv ▸ ha), State.withLif_lif, hv]
    exact ⟨rfl, rfl, rfl⟩
  · obtain ⟨v, hv, hl⟩ := read (.inr (.inr (.inl h)))
    rw [hl, hw, watchLine_stuck_asserted (hv ▸ h), State.withLif_lif, hv]
    exact ⟨h, rfl⟩
  · obtain ⟨v, hv, hl⟩ := read (.inr (.inr (.inl h)))
    rw [hl, hw, watchLine_stuck_released (hv ▸ h)]
    exact ⟨rfl, rfl, rfl⟩

/-! ## The countdowns above 1 -/

section Countdowns

variable {s : State} {n : Nat}

theorem sampleSense_counts (k : Nat) (h : s.pins.sns.getD k false ≠ (s.ct.sense.getD k ⟨false, 0⟩).filtered)
    (hl : (s.ct.sense.getD k ⟨false, 0⟩).run + 1 < s.settings.filterLength k) :
    sampleSense k s = s.withCt { s.ct with
      sense := s.ct.sense.set k
        ⟨(s.ct.sense.getD k ⟨false, 0⟩).filtered, (s.ct.sense.getD k ⟨false, 0⟩).run + 1⟩ } :=
  (if_neg h).trans (if_neg (Nat.not_le.2 hl))

theorem sampleSense_switches (k : Nat) (h : s.pins.sns.getD k false ≠ (s.ct.sense.getD k ⟨false, 0⟩).filtered)
    (hl : s.settings.filterLength k ≤ (s.ct.sense.getD k ⟨false, 0⟩).run + 1) :
    sampleSense k s = filteredEdge k (s.pins.sns.getD k false) s := (if_neg h).trans (if_pos hl)

theorem countSlot_counts (i : Nat)
    (h : (s.slot i).state = .pending ∧ (s.slot i).patience ≠ 0 ∨ (s.slot i).state = .lingering)
    (hc : 1 < (s.slot i).countdown) :
    countSlot i s = setSlot i { s.slot i with countdown := (s.slot i).countdown - 1 } s := by
  rcases h with ⟨h, hp⟩ | h
  · simp only [countSlot, h, if_neg hp, if_neg (Nat.not_le.2 hc)]
  · simp [countSlot, h, Nat.not_le.2 hc]

theorem countGrace_counts (hn : 1 < n) (h : s.mpc.grace = some n) :
    countGrace s = if s.mpc.frozen then s else s.withMpc { s.mpc with grace := some (n - 1) } := by
  simp [countGrace, h, Nat.not_le.2 hn]

theorem countHello_counts (hn : 1 < n) (h : s.mpc.hello = some n) :
    countHello s = if s.mpc.frozen then s else s.withMpc { s.mpc with hello := some (n - 1) } := by
  simp [countHello, h, Nat.not_le.2 hn]

end Countdowns

/-- Settles O2. -/
theorem emptyQueueStepIsOnePeriod : Obligations.EmptyQueueStepIsOnePeriod := by
  refine ⟨fun s hp => ⟨slowPeriod s, by simp [step, hp], by simp, by simp [hp], by simp, by simp, fun hr => ?_,
    fun hr => ⟨_, rfl, ?_⟩, slowPeriod_counts⟩, fun u => ⟨sampleSense_counts, sampleSense_switches, fun k h => if_pos h,
    countSlot_counts, fun n hr hc => ?_, fun n hn h => ?_, fun n hn h => ?_, fun n hn h => ?_, fun n hn h => ?_,
    fun n hn h => ?_, fun e hn h => ?_, fun hn => ?_, fun hn => ?_, fun n hn h => ?_, fun n => countGrace_counts,
    fun n => countHello_counts, fun n h hn => ?_⟩⟩
  · simp [slowPeriod, hr]
  · have time := (inOrder_period_frame (s.mc.decisionDue || s.mc.restDue) (s.withTime (s.time + 1))).2.1
    simp [slowPeriod, hr, State.atTick, time, Config.tickPeriods]
  · simp [countWakeTimer, hr, Nat.not_le.2 hc]
  · simp [countRejoin, h, Nat.not_le.2 hn]
  · simp [countHeartbeat, h, Nat.not_le.2 hn]
  · simp [countSettle, h, Nat.not_le.2 hn]
  · simp [countBattery, h, Nat.not_le.2 hn]
  · simp [countQuietInterval, h, Nat.not_le.2 hn]
  · simp [countExclusion, h, Nat.not_le.2 hn]
  · simp [countHoldOff, Nat.not_le.2 hn]
  · simp [countLinkHold, Nat.not_le.2 hn]
  · simp [countQuietDelay, h, Nat.not_le.2 hn]
  · simp [countPhase, h, Nat.not_le.2 hn]

end Sys2Proof.Machine

namespace Sys2Proof.Machine

/-! ## A round bit: its sample, its end, and the end of the void bit (R10 to R14, R18 to R24, R29, R35) -/

section Sample

variable {s : State} {r : RoundRecord} {x : Bool}

/-- An asserted gap, or a second asserted separator, is a lost synchronisation (R11, R13). -/
theorem bitSample_loses (hr : s.re.record = some r)
    (h : r.current = .gap ∧ x = true ∨ r.current = .sep ∧ x = true ∧ s.lif.framing = true) : bitSample x s = lostSync s := by
  rcases h with ⟨h, rfl⟩ | ⟨h, rfl, hf⟩
  · simp [bitSample, hr, h]
  · simp [bitSample, hr, h, hf]

/-- A gap and a separator that do not lose the round: an asserted separator sets the framing flag (R11). -/
theorem bitSample_framing (hr : s.re.record = some r)
    (h : r.current = .gap ∧ x = false ∨ r.current = .sep ∧ (x = false ∨ s.lif.framing = false)) :
    bitSample x s = setRecord (some { r with samples := r.samples ++ [x] })
      (s.withLif { s.lif with framing := s.lif.framing || x }) := by
  rcases h with ⟨h, rfl⟩ | ⟨h, hx⟩
  · simp only [bitSample, hr, h, Bool.or_false]
    rfl
  · cases x with
    | false =>
      simp only [bitSample, hr, h, Bool.or_false]
      rfl
    | true => simp [bitSample, hr, h, show s.lif.framing = false by simpa using hx]

/-- A bit driven asserted and sampled released, outside the gap and the separators (R14). -/
theorem bitSample_driveFault (hr : s.re.record = some r) (hg : r.current ≠ .gap) (hs : r.current ≠ .sep)
    (hd : s.lif.drive = true) :
    bitSample false s = driveFault (setRecord (some { r with samples := r.samples ++ [false] }) s) := by
  cases h : r.current <;> simp_all [bitSample]

/-- Driven released and sampled asserted, by a station that still drives the part (R18, R21). -/
def RoundRecord.beaten (r : RoundRecord) (drove x : Bool) : Bool := r.drives && !r.abandoned && !drove && x

/-- The record after an untroubled sample of a field (R18, R19). -/
def RoundRecord.fieldSampled (r : RoundRecord) (f : Field) (drove x : Bool) : RoundRecord :=
  { r with samples := r.samples ++ [x], lost := r.lost || (f.arbitrated && r.beaten drove x) }

theorem bitSample_field {f : Field} (hr : s.re.record = some r) (h : r.current = .field f)
    (hd : s.lif.drive = false ∨ x = true) :
    bitSample x s = setRecord (some (r.fieldSampled f s.lif.drive x)) s := by
  have kept : (s.lif.drive && !x) = false := by rcases hd with hd | hd <;> simp [hd]
  simp [bitSample, hr, h, kept, RoundRecord.beaten, RoundRecord.fieldSampled]

theorem bitSample_confirm {f : Field} (hr : s.re.record = some r) (h : r.current = .confirm f)
    (hd : s.lif.drive = false ∨ x = true) : bitSample x s = setRecord (some { r with
      samples := r.samples ++ [x], mismatch := r.mismatch || r.beaten s.lif.drive x }) s := by
  have kept : (s.lif.drive && !x) = false := by rcases hd with hd | hd <;> simp [hd]
  simp [bitSample, hr, h, kept, RoundRecord.beaten]

theorem bitSample_void (hr : s.re.record = some r) (h : r.current = .void) (hd : s.lif.drive = false ∨ x = true) :
    bitSample x s = setRecord (some { r with samples := r.samples ++ [x] }) s := by
  have kept : (s.lif.drive && !x) = false := by rcases hd with hd | hd <;> simp [hd]
  simp [bitSample, hr, h, kept]

end Sample

section BitEnd

variable {s : State} {r : RoundRecord}

/-- The LIF at the end of a round bit (R10). -/
def Lif.nextBit (l : Lif) : Lif := { l with bitPos := l.bitPos + 1, period := 0 }

theorem bitEnd_next_bit (hr : s.re.record = some r) (h : r.bit + 1 < r.current.width) :
    bitEnd s = setRecord (some { r with bit := r.bit + 1 }) (s.withLif s.lif.nextBit) := by
  simp [bitEnd, hr, h, Lif.nextBit]

theorem bitEnd_next_part {f : Field} (hr : s.re.record = some r)
    (hc : r.current = .gap ∨ r.current = .sep ∨ r.current = .confirm f) (h : ¬ r.bit + 1 < r.current.width) :
    bitEnd s = setRecord (some { r with seg := r.seg + 1, bit := 0, begun := false }) (s.withLif s.lif.nextBit) := by
  have ends : ∀ g, r.current = g → ¬ r.bit + 1 < g.width := fun g hg => hg ▸ h
  rcases hc with hc | hc | hc <;> simp [bitEnd, hr, hc, ends _ hc, Lif.nextBit]

theorem bitEnd_field {f : Field} (hr : s.re.record = some r) (hc : r.current = .field f)
    (h : ¬ r.bit + 1 < r.current.width) : bitEnd s = if (r.fieldDone f).standsAside
      then standAside (s.withLif s.lif.nextBit) else setRecord (some (r.fieldDone f)) (s.withLif s.lif.nextBit) := by
  rw [hc] at h
  simp only [bitEnd, hr, hc, h, if_false, Lif.nextBit]

theorem bitEnd_void (hr : s.re.record = some r) (hc : r.current = .void) : bitEnd s = endOfVoid r (s.withLif s.lif.nextBit) := by
  have last : ¬ r.bit + 1 < Seg.width .void := by simp [Seg.width]
  simp only [bitEnd, hr, hc, last, if_false, Lif.nextBit]

theorem fieldDone_frame (f : Field) (r : RoundRecord) : (r.fieldDone f).seg = r.seg + 1 ∧ (r.fieldDone f).bit = 0
    ∧ (r.fieldDone f).begun = false ∧ (r.fieldDone f).role = r.role ∧ (r.fieldDone f).abandoned = r.abandoned
    ∧ (r.fieldDone f).results = r.results ++ [(f, r.samples)]
    ∧ (r.fieldDone f).rtype = if f = .typ then RoundType.ofCode (natOfBits r.samples) else r.rtype := by
  cases f with
  | hold =>
    simp only [RoundRecord.fieldDone]
    split <;> simp
  | _ => simp [RoundRecord.fieldDone]

theorem ofCode_eq (n : Nat) : RoundType.ofCode n = if n = 6 then some .join else if n = 4 then some .status
    else if n = 2 then some .census else if n = 1 then some .rest else none := rfl

/-- A field after which a non-member stands aside: the type field of a Status round (R29). -/
theorem standsAside_iff (f : Field) (r : RoundRecord) : (r.fieldDone f).standsAside = true ↔
    r.role = .nonMember ∧ (if f = .typ then natOfBits r.samples = 4 else r.rtype = some .status) := by
  obtain ⟨-, -, -, hrole, -, -, htype⟩ := fieldDone_frame f r
  have status : ∀ n, RoundType.ofCode n = some .status ↔ n = 4 := fun n => by
    rw [ofCode_eq]
    grind
  rw [RoundRecord.standsAside, hrole, htype]
  split <;> simp [status]

theorem standAside_spec (s : State) : (standAside s).lif = { s.lif.leave .seeking with idleRun := 0 }
    ∧ (standAside s).mc = s.mc ∧ (standAside s).re = { s.re with record := none, named := none } := ⟨rfl, rfl, rfl⟩

/-- A listener, and a follower without an outcome, report the round closed at the end of the void bit (R14, R29, R35). -/
theorem endOfVoid_without_outcome (h : r.abandoned = true ∨ r.hasOutcome = false) : endOfVoid r s
    = (s.withLif { s.lif.leave .idle with idleRun := 0 }).withRe { s.re with record := none, named := none } := by
  have silent : (r.abandoned || !r.hasOutcome) = true := by rcases h with h | h <;> simp [h]
  simp only [endOfVoid, silent, if_true]
  rfl

/-- What a station with an outcome delivers it in: Closing, the idle run at 0, the record standing (R12). -/
def voidEnded (s : State) : State :=
  (s.withLif { s.lif.leave .closing with idleRun := 0 }).withRe { s.re with named := none }

theorem endOfVoid_with_outcome (ha : r.abandoned = false) (ho : r.hasOutcome = true) : endOfVoid r s
    = if r.samples.getLastD false then voidRound (voidEnded s) else commitRound r (voidEnded s) := by
  simp [endOfVoid, ha, ho, voidEnded]

theorem hasOutcome_member (h : r.role = .member) : r.hasOutcome = true := by
  simp [RoundRecord.hasOutcome, RoundRecord.fullPart, h]

theorem hasOutcome_nonMember (h : r.role = .nonMember) (hw : r.rtype ≠ some .join ∨ r.winner = false) :
    r.hasOutcome = false := by
  rcases hw with hw | hw <;> simp [RoundRecord.hasOutcome, RoundRecord.fullPart, h, hw]

end BitEnd

/-! ## The record outlasts an outcome (R17) -/

section RecordStands

variable (s : State)

theorem wantsOnly_record {s t : State} (h : wantsOnly s t) : t.re.record = s.re.record := by
  rw [h.2.1]

theorem raiseStatus_record : (raiseStatus s).re.record = s.re.record := wantsOnly_record (raiseStatus_wantsOnly s)

theorem setDisagreement_record (b : Bool) : (setDisagreement b s).re.record = s.re.record := by
  simp only [setDisagreement]
  split <;> simp [raiseStatus_record]

/-- From s to t the RE changes in its Census want alone, and the notice requests stand. -/
def censusOnly (s t : State) : Prop :=
  t.re = { s.re with census := t.re.census } ∧ t.pl.refill = s.pl.refill ∧ t.pl.restore = s.pl.restore

theorem censusOnly_of_eq {s t : State} (hr : t.re = s.re) (hp : t.pl = s.pl) : censusOnly s t := by
  simp [censusOnly, hr, hp]

theorem censusOnly_trans {s t u : State} (h : censusOnly s t) (k : censusOnly t u) : censusOnly s u := by
  obtain ⟨hr, hf, hs⟩ := h
  obtain ⟨kr, kf, ks⟩ := k
  exact ⟨by rw [kr, hr], kf.trans hf, ks.trans hs⟩

theorem raiseCensus_censusOnly : censusOnly s (raiseCensus s) := by
  simp only [censusOnly, raiseCensus]
  split <;> simp

theorem withdrawCensus_censusOnly : censusOnly s (withdrawCensus s) := ⟨rfl, rfl, rfl⟩

theorem raiseEvent_censusOnly (e : Event) : censusOnly s (raiseEvent e s) := ⟨rfl, rfl, rfl⟩

theorem withCu_censusOnly (c : Cu) : censusOnly s (s.withCu c) := ⟨rfl, rfl, rfl⟩

theorem censusRecheck_censusOnly : censusOnly s (censusRecheck s) :=
  iteInduction (motive := censusOnly s)
    (fun _ => censusOnly_trans (withCu_censusOnly s _) (raiseCensus_censusOnly _)) fun _ => censusOnly_of_eq rfl rfl

theorem censusStep_censusOnly (l : Level) (c : Station) : censusOnly s (censusStep l c s) := by
  simp only [censusStep]
  (repeat' split)
  · exact withCu_censusOnly s _
  · exact raiseCensus_censusOnly s
  · exact censusOnly_trans (censusOnly_trans (withCu_censusOnly s _) (withdrawCensus_censusOnly _)) (raiseEvent_censusOnly _ _)
  · exact censusOnly_trans (withCu_censusOnly s _) (raiseCensus_censusOnly _)
  · exact censusOnly_trans (censusOnly_trans (withCu_censusOnly s _) (raiseEvent_censusOnly _ _)) (raiseCensus_censusOnly _)
  · exact censusOnly_trans (withCu_censusOnly s _) (raiseCensus_censusOnly _)
  · exact censusOnly_of_eq rfl rfl

theorem censusYield_censusOnly (l : Level) (c : Station) : censusOnly s (censusYield l c s) := by
  simp only [censusYield]
  (repeat' split)
  · exact withCu_censusOnly s _
  · exact censusOnly_trans (withCu_censusOnly s _) (withdrawCensus_censusOnly _)
  · exact censusOnly_of_eq rfl rfl

theorem cuCensus_censusOnly (w : Bool) (q : Station) (l : Level) (c : Station) : censusOnly s (cuCensus w q l c s) :=
  censusOnly_trans (iteInduction (motive := censusOnly s)
    (fun _ => censusOnly_trans (withCu_censusOnly s _) (censusStep_censusOnly _ l c))
    fun _ => censusOnly_trans (withCu_censusOnly s _) (censusYield_censusOnly _ l c)) (censusRecheck_censusOnly _)

/-- A commit of a Status round on its own want settled and the counter advanced: nothing more of the RE and the MC but the
wants that the round raises (R33, R34, R37). -/
theorem commitStatus_wantsOnly (r : RoundRecord) :
    wantsOnly (advanceCounter (s.withRe { s.re with status := s.re.status.settle })) (commitStatus r s) := by
  simp only [commitStatus]
  generalize advanceCounter (s.withRe { s.re with status := s.re.status.settle }) = a
  generalize hb : ctStatus (some a.mc.counter) a.ev.alarm (evStatus r.statusValues r.holdDriven (some a.mc.counter) a) = b
  have applied : wantsOnly a b := hb ▸ wantsOnly_trans (evStatus_wantsOnly ..) (ctStatus_wantsOnly ..)
  have refilled : wantsOnly b (if r.statusValues.refill = true then refill b else b) :=
    iteInduction (motive := wantsOnly b) (fun _ => refill_wantsOnly b) fun _ => wantsOnly_refl b
  have powered := wantsOnly_trans (wantsOnly_trans applied refilled) (mpcStatus_wantsOnly r.statusValues.restore _)
  exact wantsOnly_trans powered (wantsOnly_of_eq (by simp) (by simp) (by simp))

theorem commitRest_wantsOnly (r : RoundRecord) :
    wantsOnly (advanceCounter (s.withRe { s.re with rest := s.re.rest.settle })) (commitRest r s) :=
  wantsOnly_trans (evRest_wantsOnly ..) (evaluateNeed_wantsOnly _)

theorem commitRound_lif {r : RoundRecord} (h : r.role = .member) : (commitRound r s).lif = s.lif := by
  simp only [commitRound, commitJoin, h, if_true]
  split <;> simp

theorem commitRound_record {r : RoundRecord} (h : r.role = .member) : (commitRound r s).re.record = s.re.record := by
  simp only [commitRound]
  split
  · rw [wantsOnly_record (commitStatus_wantsOnly _ r)]
    simp
  · rw [wantsOnly_record (commitRest_wantsOnly _ r)]
    simp
  · simp only [commitCensus]
    rw [(cuCensus_censusOnly ..).1]
    split <;> simp
  · simp [commitJoin, h, joinAtMember, setDisagreement_record]
  · rfl

theorem voidRound_record : (voidRound s).re.record = s.re.record := by
  simp only [voidRound]
  split <;> simp [Re.clearMarks]

/-- A Member that follows a round to its outcome: Closing with the record standing (R12, R17). -/
theorem endOfVoid_member {r : RoundRecord} (hr : r.role = .member) (ha : r.abandoned = false) :
    (endOfVoid r s).lif = { s.lif.leave .closing with idleRun := 0 } ∧ (endOfVoid r s).re.record = s.re.record := by
  rw [endOfVoid_with_outcome ha (hasOutcome_member hr)]
  split
  · simp [voidRound_record, voidEnded]
  · simp [commitRound_lif _ hr, commitRound_record _ hr, voidEnded]

end RecordStands

end Sys2Proof.Machine

namespace Sys2Proof.Machine

/-! ## An asserted reading, by LIF state (R2, R5, R8, R10, R13, R15) -/

section Reading

variable {s : State}

theorem watchBit_counts {x : Bool} {n : Nat} (h : (if x then s.lif.assertedRun + n else 0) < 161) :
    watchBit x n s = s.withLif { s.lif with assertedRun := if x then s.lif.assertedRun + n else 0 } :=
  if_neg (Nat.not_le.2 h)

theorem watchBit_sticks {n : Nat} (h : 161 ≤ s.lif.assertedRun + n) :
    watchBit true n s = stuckLineFound (s.withLif { s.lif with assertedRun := s.lif.assertedRun + n }) := if_pos h

/-- A sample keeps the period of the bit while the round runs. -/
theorem bitSample_period (x : Bool) (h : (bitSample x s).lif.state = .round) :
    (bitSample x s).lif.period = s.lif.period := by
  have lost : ∀ v : State, (lostSync v).lif.state ≠ .round := fun v => by simp [lostSync_spec, Lif.leave]
  revert h
  simp only [bitSample, driveFault]
  (repeat' split) <;> simp [lost]

/-- A round whose asserted run and bit period have gone up by one. -/
def roundPeriod (s : State) : State :=
  s.withLif { s.lif with assertedRun := s.lif.assertedRun + 1, period := s.lif.period + 1 }

/-- The asserted period of a round bit, by its place in the bit (R10). -/
theorem watchRound_asserted (hs : s.lif.state = .round) (ha : s.lif.assertedRun < 160) : watchRound true s =
    if s.lif.period = 4 then bitSample true (roundPeriod s) else if s.lif.period = 7 then bitEnd (roundPeriod s)
    else roundPeriod s := by
  have counted : watchBit true 1 s = s.withLif { s.lif with assertedRun := s.lif.assertedRun + 1 } :=
    watchBit_counts (by simp; omega)
  have round : (roundPeriod s).lif.state = .round := hs
  have period : (roundPeriod s).lif.period = s.lif.period + 1 := rfl
  have unfolded : watchRound true s = if (if s.lif.period + 1 = 5 then bitSample true (roundPeriod s)
        else roundPeriod s).lif.state = .round ∧ (if s.lif.period + 1 = 5 then bitSample true (roundPeriod s)
        else roundPeriod s).lif.period = 8
      then bitEnd (if s.lif.period + 1 = 5 then bitSample true (roundPeriod s) else roundPeriod s)
      else if s.lif.period + 1 = 5 then bitSample true (roundPeriod s) else roundPeriod s := by
    unfold watchRound
    rw [counted]
    exact if_pos hs
  rw [unfolded]
  by_cases h4 : s.lif.period = 4
  · have unfinished : ¬ ((bitSample true (roundPeriod s)).lif.state = .round
        ∧ (bitSample true (roundPeriod s)).lif.period = 8) := fun h => by
      have := bitSample_period true h.1
      omega
    simp [h4, unfinished]
  · by_cases h7 : s.lif.period = 7 <;> simp [h4, h7, round, period]

theorem watchRound_sticks (hs : s.lif.state = .round) (ha : 160 ≤ s.lif.assertedRun) : watchRound true s
    = stuckLineFound (s.withLif { s.lif with assertedRun := s.lif.assertedRun + 1 }) := by
  have stuck : watchBit true 1 s = stuckLineFound (s.withLif { s.lif with assertedRun := s.lif.assertedRun + 1 }) :=
    watchBit_sticks (by omega)
  have spec := stuckLineFound_spec (s.withLif { s.lif with assertedRun := s.lif.assertedRun + 1 })
    (by simp [hs]) (by simp [hs])
  simp [watchRound, stuck, spec.1]

theorem assertedReading_sticks (ha : 160 ≤ s.lif.assertedRun) : assertedReading s
    = stuckLineFound (s.withLif { s.lif with idleRun := 0, assertedRun := s.lif.assertedRun + 1 }) :=
  if_pos (show 161 ≤ s.lif.assertedRun + 1 by omega)

theorem watchLine_of_pulse {x : Bool} (h : s.lif.state = .pulse) : watchLine x s = watchPulse x s := by
  simp only [watchLine, h]

theorem watchLine_of_closing {x : Bool} (h : s.lif.state = .closing) : watchLine x s = watchClosing x s := by
  simp only [watchLine, h]

theorem watchLine_of_round {x : Bool} (h : s.lif.state = .round) : watchLine x s = watchRound x s := by
  simp only [watchLine, h]

theorem driveForPeriod_pulse (h : s.lif.state = .pulse) : driveForPeriod s
    = s.withLif { s.lif with drive := s.lif.starter && decide (s.lif.driven < Config.pulsePeriods) } := by
  simp only [driveForPeriod, h]

/-- The asserted reading in Closing (R13; log 32). -/
def closingPeriod (s : State) : State :=
  s.withLif { s.lif with stretch := s.lif.stretch + 1, idleRun := 0, assertedRun := s.lif.assertedRun + 1 }

/-- The states that an asserted reading after 160 others makes Stuck (R15). -/
theorem watchLine_sticks (h : s.lif.state = .seeking ∨ s.lif.state = .idle ∧ s.lif.idleRun < 32 ∨ s.lif.state = .pulse
    ∨ s.lif.state = .round ∨ s.lif.state = .closing) (ha : 160 ≤ s.lif.assertedRun) :
    ∃ v : State, watchLine true s = stuckLineFound v ∧ v.lif.state = s.lif.state ∧ v.mc = s.mc := by
  rcases h with h | h | h | h | h
  · exact ⟨_, (watchLine_no_pulse (.inl h)).trans (assertedReading_sticks ha), rfl, rfl⟩
  · exact ⟨_, (watchLine_no_pulse (.inr h)).trans (assertedReading_sticks ha), rfl, rfl⟩
  · rw [watchLine_of_pulse h]
    exact ⟨_, if_pos (show 161 ≤ s.lif.assertedRun + 1 by omega), rfl, rfl⟩
  · exact ⟨_, (watchLine_of_round h).trans (watchRound_sticks h ha), rfl, rfl⟩
  · have read : assertedReading (s.withLif { s.lif with stretch := s.lif.stretch + 1 })
        = stuckLineFound (closingPeriod s) := assertedReading_sticks ha
    have out : ¬ ((stuckLineFound (closingPeriod s)).lif.state = .closing
        ∧ Config.startPeriods ≤ (stuckLineFound (closingPeriod s)).lif.stretch) := fun hc => by
      obtain ⟨stuck, -⟩ := stuckLineFound_spec (closingPeriod s) (by simp [closingPeriod, h]) (by simp [closingPeriod, h])
      cases stuck.symm.trans hc.1
    refine ⟨closingPeriod s, ?_, rfl, rfl⟩
    rw [watchLine_of_closing h, watchClosing, if_pos rfl, read]
    exact if_neg out

/-! ### Pulse and Closing -/

/-- An asserted reading of a pulse (R8), the drive value set (R7). -/
def pulsePeriod (s : State) : State :=
  s.withLif { s.lif with
    stretch := s.lif.stretch + 1, idleRun := 0, assertedRun := s.lif.assertedRun + 1
    drive := s.lif.starter && decide (s.lif.driven < 48)
    driven := if s.lif.starter && decide (s.lif.driven < 48) then s.lif.driven + 1 else s.lif.driven }

theorem watchLine_pulse (hs : s.lif.state = .pulse) (ha : s.lif.assertedRun < 160) :
    watchLine true (driveForPeriod s) = if 32 ≤ s.lif.stretch + 1 ∧ s.re.record.isNone = true
      then startIsAccepted (pulsePeriod s) else pulsePeriod s := by
  have short : ¬ 161 ≤ s.lif.assertedRun + 1 := by omega
  rw [driveForPeriod_pulse hs]
  refine (watchLine_of_pulse (by exact hs)).trans ?_
  rw [watchPulse, if_pos rfl]
  exact if_neg short

theorem watchLine_closing (hs : s.lif.state = .closing) (ha : s.lif.assertedRun < 160) :
    watchLine true s = if 32 ≤ s.lif.stretch + 1 then lostSync (closingPeriod s) else closingPeriod s := by
  have read := assertedReading_runs (s.withLif { s.lif with stretch := s.lif.stretch + 1 }) ha
  rw [watchLine_of_closing hs, watchClosing, if_pos rfl, read]
  exact if_congr (and_iff_right hs) rfl rfl

end Reading

theorem driveForPeriod_undriven {s : State} (h : s.lif.state ≠ .pulse) (hr : s.lif.state = .round → s.lif.period ≠ 0) :
    driveForPeriod s = s := by
  cases hs : s.lif.state <;> simp_all [driveForPeriod]

theorem changesOnly_withLif {bs : List Block} {s t : State} (h : changesOnly bs s t) (hl : .lif ∈ bs) (l : Lif) :
    changesOnly bs s (t.withLif l) := by
  intro b hb
  have kept := h b hb
  cases b with
  | lif => exact absurd hl hb
  | _ => exact kept

/-- In Round the beginning of a period touches the drive value, the record and the offers alone (R10, R73). -/
theorem driveForPeriod_round {s : State} (h : s.lif.state = .round) :
    (driveForPeriod s).lif = { s.lif with drive := (driveForPeriod s).lif.drive }
      ∧ changesOnly [.lif, .re, .ct] s (driveForPeriod s) := by
  have begins : driveForPeriod s = if s.lif.period = 0 then bitBegin s else s := by simp only [driveForPeriod, h]
  rw [begins]
  split
  · exact ⟨bitBegin_lif s, by simp [changesOnly_iff]⟩
  · exact ⟨rfl, by simp [changesOnly_iff]⟩

theorem exec_assertedReading {s : State} (hr : s.pins.rstN = true) :
    exec .assertedPeriodWatchReading s = .next (watchLine true (driveForPeriod s)) := by
  simp only [exec, execAssertedPeriodWatchReading]
  exact gated_of_rstN s _ hr

theorem exec_assertedReading_undriven {s : State} (hr : s.pins.rstN = true) (h : s.lif.state ≠ .pulse)
    (hp : s.lif.state = .round → s.lif.period ≠ 0) :
    exec .assertedPeriodWatchReading s = .next (watchLine true s) := by
  rw [exec_assertedReading hr, driveForPeriod_undriven h hp]

/-- An asserted sample that does not lose the round, by the part of the layout that runs (R11, R18, R19, R21). -/
theorem bitSample_asserted {s : State} {r : RoundRecord} (hr : s.re.record = some r) (hg : r.current ≠ .gap)
    (hf : r.current = .sep → s.lif.framing = false) : ∃ q, bitSample true s = setRecord (some q)
        (s.withLif { s.lif with framing := s.lif.framing || decide (r.current = .sep) })
      ∧ (r.current = .sep ∨ r.current = .void → q = { r with samples := r.samples ++ [true] })
      ∧ (∀ f, r.current = .field f → q = r.fieldSampled f s.lif.drive true)
      ∧ (∀ f, r.current = .confirm f → q = { r with
        samples := r.samples ++ [true], mismatch := r.mismatch || r.beaten s.lif.drive true }) := by
  have unframed : ∀ q, r.current ≠ .sep → bitSample true s = setRecord (some q) s → bitSample true s
      = setRecord (some q) (s.withLif { s.lif with framing := s.lif.framing || decide (r.current = .sep) }) := by
    intro q hs hq
    rw [hq, decide_eq_false hs, Bool.or_false]
    rfl
  cases hc : r.current with
  | gap => exact absurd hc hg
  | sep => exact ⟨_, bitSample_framing hr (.inr ⟨hc, .inr (hf hc)⟩), fun _ => rfl, by simp, by simp⟩
  | void =>
    rw [← hc]
    exact ⟨_, unframed _ (by simp [hc]) (bitSample_void hr hc (.inr rfl)), fun _ => rfl, by simp [hc], by simp [hc]⟩
  | field f =>
    rw [← hc]
    refine ⟨_, unframed _ (by simp [hc]) (bitSample_field hr hc (.inr rfl)), by simp [hc], fun g hg => ?_, by simp [hc]⟩
    rw [Seg.field.inj (hc.symm.trans hg)]
  | confirm f =>
    rw [← hc]
    exact ⟨_, unframed _ (by simp [hc]) (bitSample_confirm hr hc (.inr rfl)), by simp [hc], by simp [hc], fun _ _ => rfl⟩

/-- The record after a bit of a round that goes on (R10, R17). -/
def RoundRecord.movesTo (r q : RoundRecord) : Prop :=
  (r.bit + 1 < r.current.width → q = { r with bit := r.bit + 1 })
    ∧ (¬ r.bit + 1 < r.current.width → q.seg = r.seg + 1 ∧ q.bit = 0 ∧ q.begun = false) ∧ q.abandoned = r.abandoned

/-- The end of the bit, where the station goes on in the round: it does not stand aside, and the void bit is not over. -/
theorem bitEnd_goes_on {s : State} {r : RoundRecord} (hr : s.re.record = some r) (hv : r.current ≠ .void)
    (h : r.bit + 1 < r.current.width ∨ r.role = .member
      ∨ (if r.current = .field .typ then natOfBits r.samples ≠ 4 else r.rtype ≠ some .status)) :
    ∃ q, bitEnd s = setRecord (some q) (s.withLif s.lif.nextBit) ∧ r.movesTo q := by
  by_cases hb : r.bit + 1 < r.current.width
  · exact ⟨_, bitEnd_next_bit hr hb, fun _ => rfl, fun hn => absurd hb hn, rfl⟩
  · have part : ∀ f, r.current = .gap ∨ r.current = .sep ∨ r.current = .confirm f →
        ∃ q, bitEnd s = setRecord (some q) (s.withLif s.lif.nextBit) ∧ r.movesTo q := fun f hc =>
      ⟨_, bitEnd_next_part hr hc hb, fun hn => absurd hn hb, fun _ => ⟨rfl, rfl, rfl⟩, rfl⟩
    cases hc : r.current with
    | void => exact absurd hc hv
    | gap => exact part .typ (.inl hc)
    | sep => exact part .typ (.inr (.inl hc))
    | confirm f => exact part f (.inr (.inr hc))
    | field f =>
      have follows : ¬ (r.fieldDone f).standsAside = true := by
        rw [standsAside_iff]
        rintro ⟨hn, ht⟩
        simp only [hc, Seg.field.injEq] at h hb
        rcases h with h | h | h
        · exact hb h
        · simp [h] at hn
        · split at h <;> simp_all
      obtain ⟨hs, hb', hg, -, ha, -⟩ := fieldDone_frame f r
      exact ⟨_, (bitEnd_field hr hc hb).trans (if_neg follows), fun hn => absurd hn hb, fun _ => ⟨hs, hb', hg⟩, ha⟩

/-- Settles O22. -/
theorem assertedReadingKeepsTheIdleRunAtZero : Obligations.AssertedReadingKeepsTheIdleRunAtZero := by
  intro s hr
  have pulse := fun hs ha => (exec_assertedReading hr).trans (congrArg Host.Outcome.next (watchLine_pulse (s := s) hs ha))
  have undriven := exec_assertedReading_undriven hr
  have closing := fun (hs : s.lif.state = .closing) ha => (undriven (by simp [hs]) (by simp [hs])).trans
    (congrArg Host.Outcome.next (watchLine_closing hs ha))
  have round : s.lif.state = .round → s.lif.assertedRun < 160 → s.lif.period ≠ 0 → exec .assertedPeriodWatchReading s
      = .next (if s.lif.period = 4 then bitSample true (roundPeriod s) else if s.lif.period = 7
        then bitEnd (roundPeriod s) else roundPeriod s) := fun hs ha hp => by
    rw [undriven (by simp [hs]) (fun _ => hp), watchLine_of_round hs, watchRound_asserted hs ha]
  refine ⟨fun hs => ?_, fun hs ha => ?_, fun hs hi => ?_, fun hs ha h => ?_, fun hs ha h hn => ?_, fun hs ha h => ?_,
    fun hs ha h => ?_, fun hs ha h4 h7 => ?_, fun hs hp => ⟨_, exec_assertedReading hr, by simp, by simp⟩,
    fun r hs hp ha hrec => ?_, fun r hs hp ha hrec => ?_, fun hs => ?_, fun hs ha => ?_⟩
  · rw [undriven (by simp [hs]) (by simp [hs]), watchLine_silent _ hs]
  · have out : s.lif.state ≠ .pulse ∧ s.lif.state ≠ .round := by rcases hs with hs | ⟨hs, -⟩ <;> simp [hs]
    rw [undriven out.1 fun h => absurd h out.2, watchLine_no_pulse hs, assertedReading_runs s ha]
    rfl
  · rw [undriven (by simp [hs]) (by simp [hs]), watchLine_idle_asserted hs hi]
    rfl
  · rw [pulse hs ha, if_neg (by rintro ⟨h1, h2⟩; rcases h with h | h; exacts [by omega, h (by simpa using h2)])]
    rfl
  · rw [pulse hs ha, if_pos ⟨by omega, by simp [hn]⟩]
    refine ⟨_, _, rfl, rfl, rfl, rfl, rfl, hs, ?_, rfl, ?_⟩
    · exact Nat.max_eq_left (by simp only [pulsePeriod, State.withLif_lif, Config.startPeriods]; omega)
    · simp [changesOnly_iff, pulsePeriod]
  · rw [closing hs ha, if_neg (by omega)]
    rfl
  · rw [closing hs ha, if_pos (by omega)]
    obtain ⟨hl, hn⟩ := lostSync_spec (closingPeriod s)
    refine ⟨_, rfl, by rw [hl]; rfl, by rw [hl], hn, fun hm => ?_⟩
    obtain ⟨h1, h2, -⟩ := lostSync_degrades (s := closingPeriod s) hm
    exact ⟨h1, h2⟩
  · obtain ⟨hl, hf⟩ := driveForPeriod_round hs
    have period : (driveForPeriod s).lif.period = s.lif.period := by rw [hl]
    have read : watchLine true (driveForPeriod s) = roundPeriod (driveForPeriod s) := by
      rw [watchLine_of_round (by rw [hl]; exact hs), watchRound_asserted (by rw [hl]; exact hs) (by rw [hl]; exact ha),
        period, if_neg h4, if_neg h7]
    refine ⟨_, exec_assertedReading hr, ?_⟩
    rw [read, roundPeriod]
    simp only [State.withLif_lif]
    rw [hl]
    refine ⟨hs, rfl, rfl, rfl, rfl, ?_⟩
    exact changesOnly_withLif hf (by decide) _
  · rw [round hs ha (by omega), if_pos hp]
    have taken : (roundPeriod s).re.record = some r := hrec
    refine ⟨fun h => ?_, fun hg hf => ?_⟩
    · rw [bitSample_loses taken (h.imp (fun h => ⟨h, rfl⟩) fun ⟨h, hf⟩ => ⟨h, rfl, hf⟩)]
      obtain ⟨hl, hn⟩ := lostSync_spec (roundPeriod s)
      refine ⟨_, rfl, by rw [hl]; rfl, by rw [hl], by rw [hl]; rfl, hn, fun hm => ?_⟩
      obtain ⟨h1, h2, -⟩ := lostSync_degrades (s := roundPeriod s) hm
      exact ⟨h1, h2⟩
    · obtain ⟨q, sampled, plain, field, confirm⟩ := bitSample_asserted taken hg hf
      refine ⟨_, q, congrArg Host.Outcome.next sampled, ?_, rfl, ?_, plain, fun f hc => (field f hc).trans ?_,
        fun f hc => (confirm f hc).trans ?_⟩
      · simp [roundPeriod, hp]
      · simp [changesOnly_iff, roundPeriod]
      · simp [roundPeriod, RoundRecord.fieldSampled, RoundRecord.beaten, Bool.and_assoc]
      · simp [roundPeriod, RoundRecord.beaten, Bool.and_assoc]
  · rw [round hs ha (by omega), if_neg (show ¬ s.lif.period = 4 by omega), if_pos hp]
    have taken : (roundPeriod s).re.record = some r := hrec
    refine ⟨fun hv h => ?_, fun hc hb hn ht => ?_, fun hc h => ?_, fun hc h hm => ?_⟩
    · obtain ⟨q, he, h1, h2, -⟩ := bitEnd_goes_on taken hv (.inr h)
      refine ⟨_, q, congrArg Host.Outcome.next he, rfl, rfl, ?_, h1, h2⟩
      simp [changesOnly_iff, roundPeriod]
    · have aside : (r.fieldDone .typ).standsAside = true := (standsAside_iff _ _).2 ⟨hn, by simp [ht]⟩
      have last : ¬ r.bit + 1 < r.current.width := by simp [hc, hb, Seg.width, Field.width]
      rw [bitEnd_field taken hc last, if_pos aside]
      exact ⟨_, rfl, rfl, rfl, rfl, rfl, rfl⟩
    · rw [bitEnd_void taken hc, endOfVoid_without_outcome (h.imp id fun ⟨hn, hw⟩ => hasOutcome_nonMember hn hw)]
      exact ⟨_, rfl, rfl, rfl, rfl, rfl, rfl⟩
    · obtain ⟨hl, hre⟩ := endOfVoid_member ((roundPeriod s).withLif (roundPeriod s).lif.nextBit) hm h
      rw [bitEnd_void taken hc]
      exact ⟨_, rfl, by rw [hl]; rfl, by rw [hl], by rw [hl]; rfl, hre.trans hrec⟩
  · rw [undriven (by simp [hs]) (by simp [hs]), watchLine_stuck_asserted hs]
    rfl
  · have frame : (driveForPeriod s).lif = { s.lif with drive := (driveForPeriod s).lif.drive } := by
      by_cases h : s.lif.state = .pulse
      · rw [driveForPeriod_pulse h]
        rfl
      · by_cases h' : s.lif.state = .round
        · exact (driveForPeriod_round h').1
        · rw [driveForPeriod_undriven h fun hn => absurd hn h']
    obtain ⟨v, hv, hl, hm⟩ := watchLine_sticks (s := driveForPeriod s) (by rw [frame]; exact hs) (by rw [frame]; exact ha)
    have alive : v.lif.state ≠ .silent ∧ v.lif.state ≠ .stuck := by
      rw [hl, frame]
      rcases hs with hs | ⟨hs, -⟩ | hs | hs | hs <;> simp [hs]
    obtain ⟨h1, h2, h3, h4⟩ := stuckLineFound_spec v alive.1 alive.2
    refine ⟨_, (exec_assertedReading hr).trans (congrArg _ hv), h1, h3, h2, h4, fun hmem => ?_⟩
    obtain ⟨d1, d2, -⟩ := stuckLineFound_degrades alive.1 alive.2 (.inl (by simpa [hm] using hmem))
    exact ⟨d1, d2⟩

end Sys2Proof.Machine

namespace Sys2Proof.Machine

/-! ## What a commit or a decision may raise (R31, R33, R55, R87 to R93)

`wantsOnly` says that the Status and Rest wants alone may change; `raisesOnly` says how: the Rest want stands, the Status
want is never lost and only a Member's is set, no event is cleared, and the notice requests stand. -/

/-- From s to t nothing of the RE but the Status want changes, as `raiseStatus` may change it, no event is cleared and the
notice requests stand. -/
def raisesOnly (s t : State) : Prop :=
  t.lif = s.lif ∧ t.mc.state = s.mc.state ∧ t.re = { s.re with status := t.re.status }
    ∧ (s.mc.state ≠ .member → t.re.status = s.re.status)
    ∧ (s.re.status.held = true → t.re.status.held = true)
    ∧ (s.lif.state ≠ .round → t.re.status.renewed = s.re.status.renewed)
    ∧ t.pl.refill = s.pl.refill ∧ t.pl.restore = s.pl.restore
    ∧ ∀ e, s.eventSet e = true → t.eventSet e = true

section RaisesOnly

variable {s t u : State}

theorem raisesOnly_of_eq (hl : t.lif = s.lif) (hm : t.mc.state = s.mc.state) (hr : t.re = s.re) (hp : t.pl = s.pl) :
    raisesOnly s t := by
  simp [raisesOnly, State.eventSet, hl, hm, hr, hp]

theorem raisesOnly_refl (s : State) : raisesOnly s s := raisesOnly_of_eq rfl rfl rfl rfl

theorem raisesOnly_trans (h : raisesOnly s t) (k : raisesOnly t u) : raisesOnly s u := by
  obtain ⟨hl, hm, hre, hk, hh, hn, hf, hs, he⟩ := h
  obtain ⟨kl, km, kre, kk, kh, kn, kf, ks, ke⟩ := k
  refine ⟨kl.trans hl, km.trans hm, ?_, fun x => (kk (hm ▸ x)).trans (hk x), fun x => kh (hh x),
    fun x => (kn (hl ▸ x)).trans (hn x), kf.trans hf, ks.trans hs, fun e x => ke e (he e x)⟩
  rw [kre, hre]

theorem raiseEvent_raisesOnly (e : Event) (s : State) : raisesOnly s (raiseEvent e s) := by
  refine ⟨by simp, by simp, by simp, by simp, by simp, by simp, ?_, ?_, fun f hf => by simp [hf]⟩
  · simp [raiseEvent]
  · simp [raiseEvent]

/-- Outside Round no round is followed, so no want comes past a covering point (R31). -/
theorem pastCovering_outside {s : State} (h : s.lif.state ≠ .round) (y : RoundType) : s.pastCovering y = false := by
  simp only [State.pastCovering]
  split <;> simp [h]

/-- A Status want that a Member raises outside Round is held without a mark of its own (R31). -/
theorem raiseStatus_outside {s : State} (hm : s.mc.state = .member) (h : s.lif.state ≠ .round) :
    raiseStatus s = s.withRe { s.re with status := ⟨true, s.re.status.renewed⟩ } := by
  rw [raiseStatus_member s hm, pastCovering_outside h, Want.raise, Bool.or_false]

theorem raiseStatus_raisesOnly (s : State) : raisesOnly s (raiseStatus s) := by
  refine ⟨by simp, by simp, ?_, ?_, (raiseStatus_wantsOnly s).2.2.2.1, ?_, by simp, by simp, fun e he => by
    simpa [State.eventSet] using he⟩
  · simp only [raiseStatus]
    split <;> simp
  · intro h
    simp only [raiseStatus]
    split
    next hm => exact absurd hm h
    all_goals rfl
  · intro h
    simp only [raiseStatus, pastCovering_outside h]
    split <;> simp [Want.raise]

theorem recomputeGrades_raisesOnly (s : State) : raisesOnly s (recomputeGrades s) := by
  have graded : raisesOnly s (regrade s) := raisesOnly_of_eq (by simp) (by simp) (by simp) (by simp)
  simp only [recomputeGrades]
  split
  · exact graded
  · exact raisesOnly_trans graded (raisesOnly_trans (raiseEvent_raisesOnly _ _) (raiseStatus_raisesOnly _))

theorem refill_raisesOnly (s : State) : raisesOnly s (refill s) :=
  raisesOnly_trans (raisesOnly_of_eq (by simp) (by simp) (by simp) (by simp)) (recomputeGrades_raisesOnly _)

/-! ### The module -/

theorem enterPowering_raisesOnly (n : Need) (s : State) : raisesOnly s (enterPowering n s) :=
  raisesOnly_trans (raisesOnly_of_eq (by simp) (by simp) (by simp) (by simp)) (raiseStatus_raisesOnly _)

theorem enterParking_raisesOnly (s : State) : raisesOnly s (enterParking s) :=
  raisesOnly_trans (raisesOnly_trans (raisesOnly_of_eq (by simp) (by simp) (by simp) (by simp))
    (raiseEvent_raisesOnly _ _)) (raiseStatus_raisesOnly _)

theorem cancelPark_raisesOnly (n : Need) (s : State) : raisesOnly s (cancelPark n s) :=
  raisesOnly_trans (raisesOnly_trans (raisesOnly_of_eq (by simp) (by simp) (by simp) (by simp))
    (raiseEvent_raisesOnly _ _)) (raiseStatus_raisesOnly _)

theorem recordNeed_raisesOnly (n : Need) (s : State) : raisesOnly s (recordNeed n s) :=
  raisesOnly_of_eq (by simp) (by simp) (by simp) (by simp)

theorem evaluateNeed_raisesOnly (s : State) : raisesOnly s (evaluateNeed s) := by
  simp only [evaluateNeed]
  split
  · exact raisesOnly_refl s
  · split
    · exact iteInduction (fun _ => recordNeed_raisesOnly _ s) fun _ => enterPowering_raisesOnly _ s
    · exact recordNeed_raisesOnly _ s
    · exact iteInduction (fun _ => enterParking_raisesOnly s) fun _ =>
        raisesOnly_of_eq (by simp) (by simp) (by simp) (by simp)
    · exact iteInduction (fun _ => recordNeed_raisesOnly _ s) fun _ => cancelPark_raisesOnly _ s
    · refine iteInduction (fun _ => ?_) fun _ => recordNeed_raisesOnly _ s
      exact raisesOnly_trans (raisesOnly_of_eq (by simp) (by simp) (by simp) (by simp)) (enterPowering_raisesOnly _ _)

theorem restoreModule_raisesOnly (s : State) : raisesOnly s (restoreModule s) := by
  have left : raisesOnly s (leaveCut s) :=
    raisesOnly_trans (raisesOnly_of_eq (by simp) (by simp) (by simp) (by simp)) (raiseStatus_raisesOnly _)
  simp only [restoreModule]
  split
  · exact raisesOnly_trans left (evaluateNeed_raisesOnly _)
  · exact raisesOnly_refl s

theorem mpcStatus_raisesOnly (b : Bool) (s : State) : raisesOnly s (mpcStatus b s) := by
  refine raisesOnly_trans ?_ (evaluateNeed_raisesOnly _)
  exact iteInduction (motive := raisesOnly s) (fun _ => restoreModule_raisesOnly s) fun _ => raisesOnly_refl s

/-! ### The causes -/

theorem setSlot_raisesOnly (i : Nat) (c : Cause) (s : State) : raisesOnly s (setSlot i c s) :=
  raisesOnly_of_eq (by simp) (by simp) (by simp) (by simp)

theorem trigger_raisesOnly (i : Nat) (s : State) : raisesOnly s (trigger i s) := by
  simp only [trigger]
  split
  · exact raisesOnly_refl s
  · exact raisesOnly_trans (setSlot_raisesOnly _ _ s) (raiseStatus_raisesOnly _)
  · exact setSlot_raisesOnly _ _ s
  · exact raisesOnly_refl s
  · exact iteInduction (fun _ => setSlot_raisesOnly _ _ s) fun _ => raisesOnly_refl s

theorem curtail_raisesOnly (s : State) : raisesOnly s (curtail s) := by
  simp only [curtail]
  split
  · exact raisesOnly_trans (raisesOnly_trans (raisesOnly_of_eq (by simp) (by simp) (by simp) (by simp))
      (raiseEvent_raisesOnly _ _)) (raiseStatus_raisesOnly _)
  · exact raisesOnly_refl s

theorem wantAcceptable_raisesOnly (s : State) : raisesOnly s (wantAcceptable s) :=
  iteInduction (motive := raisesOnly s) (fun _ => raiseStatus_raisesOnly s) fun _ => raisesOnly_refl s

theorem alarmSlot_raisesOnly (b : Alarms) (s : State) : raisesOnly s (alarmSlot b s) := by
  simp only [alarmSlot]
  split
  · exact raisesOnly_trans (setSlot_raisesOnly _ _ s) (trigger_raisesOnly _ _)
  · exact setSlot_raisesOnly _ _ s

theorem acceptOffers_raisesOnly (o : Option Half) (s : State) : raisesOnly s (acceptOffers o s) :=
  raisesOnly_of_eq (by simp) (by simp) (by simp) (by simp [acceptOffers])

theorem ctStatus_raisesOnly (o : Option Half) (b : Alarms) (s : State) : raisesOnly s (ctStatus o b s) :=
  raisesOnly_trans (raisesOnly_trans (raisesOnly_trans (acceptOffers_raisesOnly o s) (curtail_raisesOnly _))
    (wantAcceptable_raisesOnly _)) (alarmSlot_raisesOnly b _)

/-! ### The episode view -/

theorem setTable_raisesOnly (x : List Entry) (s : State) : raisesOnly s (setTable x s) := by
  have taken : raisesOnly s (s.withEv { s.ev with table := x }) := raisesOnly_of_eq rfl rfl rfl rfl
  exact iteInduction (motive := raisesOnly s) (fun _ => taken) fun _ => raisesOnly_trans taken (raiseEvent_raisesOnly _ _)

theorem setAlarm_raisesOnly (a : Alarms) (s : State) : raisesOnly s (setAlarm a s) := by
  have taken : raisesOnly s (s.withEv { s.ev with alarm := a }) := raisesOnly_of_eq rfl rfl rfl rfl
  exact iteInduction (motive := raisesOnly s) (fun _ => taken) fun _ => raisesOnly_trans taken (raiseEvent_raisesOnly _ _)

/-- A move of the network state touches the Rest want of the RE alone, withdrawn at the move from Settling to Awake (R103). -/
theorem setNet_re (n : NetState) (s : State) : (setNet n s).re
    = { s.re with rest := if s.ev.net = .settling ∧ n = .awake then .clear else s.re.rest } := by
  simp only [setNet, batteryOnNetChange_frame]
  split <;> simp_all [withdrawRest]

end RaisesOnly

end Sys2Proof.Machine

namespace Sys2Proof.Machine

/-! ## Wants at a station in local mode (R31, R47, R54, R55)

A station that is not a Member sets no Status and no Rest want, so its decisions leave the Status want as it is and at most
withdraw the Rest want. -/

/-- From s to t the membership state and the Status want stand, and the Rest want is at most withdrawn. -/
def localWants (s t : State) : Prop :=
  t.mc.state = s.mc.state ∧ t.re.status = s.re.status ∧ (t.re.rest = s.re.rest ∨ t.re.rest = .clear)

section LocalWants

variable {s t u : State}

theorem localWants_of_eq (hm : t.mc.state = s.mc.state) (hr : t.re = s.re) : localWants s t := by
  simp [localWants, hm, hr]

theorem localWants_trans (h : localWants s t) (k : localWants t u) : localWants s u := by
  obtain ⟨hm, hs, hr⟩ := h
  obtain ⟨km, ks, kr⟩ := k
  exact ⟨km.trans hm, ks.trans hs, kr.elim (fun k => hr.imp k.trans k.trans) .inr⟩

theorem raisesOnly_localWants (hm : s.mc.state ≠ .member) (h : raisesOnly s t) : localWants s t := by
  obtain ⟨-, hst, hre, hs, -⟩ := h
  exact ⟨hst, hs hm, .inl (by rw [hre])⟩

theorem localWants_then (h : localWants s t) (hm : s.mc.state ≠ .member) (k : raisesOnly t u) : localWants s u :=
  localWants_trans h (raisesOnly_localWants (h.1 ▸ hm) k)

theorem setNet_localWants (n : NetState) (s : State) : localWants s (setNet n s) := by
  refine ⟨by simp, by simp [setNet_re], ?_⟩
  simp only [setNet_re]
  split <;> simp

theorem evStatus_localWants (v : StatusValues) (d : HoldMap) (o : Option Half) (hm : s.mc.state ≠ .member) :
    localWants s (evStatus v d o s) := by
  simp only [evStatus]
  refine localWants_then (localWants_then ?_ hm (setAlarm_raisesOnly v.alarm _)) hm (setTable_raisesOnly _ _)
  exact localWants_trans (localWants_of_eq rfl rfl) (setNet_localWants _ _)

theorem localRest_localWants (hm : s.mc.state ≠ .member) : localWants s (localRest s) := by
  simp only [localRest, evRest]
  exact localWants_then (localWants_then (setNet_localWants _ s) hm (setTable_raisesOnly _ _)) hm
    (evaluateNeed_raisesOnly _)

theorem localStatus_localWants (hm : s.mc.state ≠ .member) : localWants s (localStatus s) := by
  simp only [localStatus]
  generalize ha : offerCauses (s.withMc { s.mc with decisionDue := false }) = a
  have offered : localWants s a := ha ▸ localWants_of_eq (by simp) (by simp)
  have viewed := localWants_trans offered
    (evStatus_localWants a.localValues a.localValues.hold none (offered.1 ▸ hm))
  have judged := localWants_then viewed hm (ctStatus_raisesOnly none a.ev.alarm _)
  generalize ctStatus none a.ev.alarm (evStatus a.localValues a.localValues.hold none a) = b at judged
  have refilled : localWants s (if a.localValues.refill = true then refill b else b) :=
    iteInduction (motive := localWants s) (fun _ => localWants_then judged hm (refill_raisesOnly b)) fun _ => judged
  generalize (if a.localValues.refill = true then refill b else b) = c at refilled
  have powered := localWants_then (localWants_trans refilled (localWants_of_eq (t := unfreeze c) (by simp) (by simp))) hm
    (mpcStatus_raisesOnly a.localValues.restore _)
  exact localWants_trans powered (localWants_of_eq rfl rfl)

theorem enterLocal_localWants (hm : s.mc.state ≠ .member) : localWants s (enterLocal s) := by
  have decided : localWants s (localStatus (evLocalEntry s)) := localWants_trans
    (localWants_of_eq (t := evLocalEntry s) (by simp) (by simp)) (localStatus_localWants (by simpa using hm))
  simp only [enterLocal]
  split
  · exact localWants_trans decided (localRest_localWants (by simpa using hm))
  · exact decided

end LocalWants

/-! ## Line faults and the wants (R36, R47 to R50) -/

/-- No want is marked as renewed. -/
def Re.unmarked (r : Re) : Prop :=
  r.join.renewed = false ∧ r.status.renewed = false ∧ r.census.renewed = false ∧ r.rest.renewed = false

theorem unmarked_clearMarks (r : Re) : r.clearMarks.unmarked := ⟨rfl, rfl, rfl, rfl⟩

section Reports

variable {s : State} {f : LineFault}

/-- A Member that leaves the network keeps its Join want alone, without the mark (R47). -/
theorem memberToDegraded_wants (f : LineFault) (s : State) : (memberToDegraded f s).re.join = { s.re.join with renewed := false }
    ∧ (memberToDegraded f s).re.status = .clear ∧ (memberToDegraded f s).re.census = .clear
    ∧ (memberToDegraded f s).re.rest = .clear ∧ (memberToDegraded f s).re.voids = 0 := by
  simp only [memberToDegraded, raiseEvent_frame, enterLocal_keeps]
  generalize hu : cuLeaveMember _ = u
  have wants : u.re = { s.re.clearMarks with status := .clear, census := .clear, rest := .clear, voids := 0 }
      ∧ u.mc.state = .degraded := by simp [← hu]
  obtain ⟨hre, hst⟩ := wants
  obtain ⟨-, status, rest⟩ := enterLocal_localWants (s := u) (by simp [hst])
  simp_all [Re.clearMarks]

theorem joiningToDegraded_wants (f : LineFault) (s : State) : (joiningToDegraded f s).re.unmarked := by
  simp only [joiningToDegraded, raiseEvent_frame]
  generalize hu : dropOpened _ = u
  have wants : u.re = { s.re.clearMarks with join := .clear, voids := 0 } ∧ u.mc.state = .degraded := by simp [← hu]
  obtain ⟨hre, hst⟩ := wants
  obtain ⟨-, status, rest⟩ := enterLocal_localWants (s := u) (by simp [hst])
  refine ⟨by simp [hre, Want.clear], by simp [status, hre, Re.clearMarks], by simp [hre, Re.clearMarks], ?_⟩
  rcases rest with rest | rest <;> simp [rest, hre, Want.clear, Re.clearMarks]

theorem reportFault_unmarked (h : s.re.unmarked) : (reportFault f s).re.unmarked := by
  obtain ⟨hj, hs, hc, hr⟩ := h
  simp only [reportFault]
  split
  · obtain ⟨hj, hs, hc, hr, -⟩ := memberToDegraded_wants f s
    simp [Re.unmarked, hj, hs, hc, hr, Want.clear]
  · split
    · exact ⟨hj, hs, hc, hr⟩
    · exact joiningToDegraded_wants f s
  · simp [degradedFault, Re.unmarked, hs, hc, hr, Want.clear]
  all_goals exact ⟨hj, hs, hc, hr⟩

/-- A lost synchronisation keeps the Join want outside Degraded, and the void counter outside Member (R36, R47 to R50). -/
theorem lostSync_wants (s : State) : (s.mc.state ≠ .degraded → (lostSync s).re.join.held = s.re.join.held)
    ∧ (lostSync s).re.voids = if s.mc.state = .member then 0 else s.re.voids := by
  simp only [lostSync, reportFault, abandonRound_frame]
  cases hm : (State.withLif s { s.lif.leave .seeking with idleRun := 0 }).mc.state <;>
    simp_all [memberToDegraded_wants, degradedFault, abandonRound, Re.clearMarks]

/-- A drive fault in a round (R14, R36): released, listening, the record abandoned, and reported. -/
theorem driveFault_spec (s : State) : (driveFault s).lif = { s.lif with drive := false, listener := true }
    ∧ (driveFault s).re.record = s.re.record.map (fun r => { r with abandoned := true })
    ∧ (driveFault s).re.unmarked ∧ (driveFault s).mc.counter = s.mc.counter
    ∧ (s.mc.state = .member → (driveFault s).degradedBy .driveFault) := by
  refine ⟨by simp [driveFault], by simp [driveFault], reportFault_unmarked (unmarked_clearMarks _), by simp [driveFault],
    fun h => reportFault_degrades_member (by simpa using h)⟩

end Reports

end Sys2Proof.Machine

namespace Sys2Proof.Machine

/-! ## One whole bit of a round (R10, R14, R18 to R24, R29) -/

/-- n readings of x taken in a round bit, the line not yet stuck (R2, R15). -/
def readFor (x : Bool) (n : Nat) (s : State) : State :=
  s.withLif { s.lif with assertedRun := if x then s.lif.assertedRun + n else 0 }

section WholeBit

variable {s : State} {r : RoundRecord} {x : Bool}

@[simp] theorem setRecord_record (q : Option RoundRecord) (s : State) : (setRecord q s).re.record = q := rfl

theorem finishBit_out (h : s.lif.state ≠ .round) : finishBit x s = s := if_neg h

theorem finishBit_in (hs : s.lif.state = .round) (hp : s.lif.period < 5) (ha : x = true → s.lif.assertedRun < 158) :
    finishBit x s = bitEnd (readFor x 3 s) := by
  have rest : Config.bitPeriods - max s.lif.period Config.samplePeriodOfBit = 3 := by
    simp only [Config.bitPeriods, Config.samplePeriodOfBit]
    omega
  have read : watchBit x 3 s = readFor x 3 s := watchBit_counts (by grind)
  rw [finishBit, if_pos hs, rest, read]
  exact if_pos hs

/-- A bit taken from before its sample: begun at its first period, read to its sample, sampled and finished. -/
theorem runBit_eq (hs : s.lif.state = .round) (hp : s.lif.period < 5) (ha : x = true → s.lif.assertedRun < 153) : runBit x s
    = finishBit x (bitSample x (readFor x (5 - s.lif.period) (if s.lif.period = 0 then bitBegin s else s))) := by
  have begins : (if s.lif.period = 0 then bitBegin s else s).lif
      = { s.lif with drive := (if s.lif.period = 0 then bitBegin s else s).lif.drive } := by
    split
    · exact bitBegin_lif s
    · rfl
  rw [runBit, if_pos hs]
  generalize (if s.lif.period = 0 then bitBegin s else s) = u at begins
  have period : Config.samplePeriodOfBit - u.lif.period = 5 - s.lif.period := by rw [begins]; rfl
  have run : u.lif.assertedRun = s.lif.assertedRun := by rw [begins]
  have read : watchBit x (5 - s.lif.period) u = readFor x (5 - s.lif.period) u :=
    watchBit_counts (by grind)
  simp only [period, read]
  exact if_pos (show u.lif.state = .round by rw [begins]; exact hs)

/-- The pins after a round: the peers leave the line unless it is stuck (log 26). -/
def roundPins (s : State) : State := s.withPins { s.pins with wakePeers := s.pins.wakePeers && s.lif.state == .stuck }

/-- ROUND with one sample, from before the sample of a bit. -/
theorem exec_round_one_bit (n : Nat) (c : Bool) (hr : s.pins.rstN = true) (hs : s.lif.state = .round)
    (hp : s.lif.period < 5) : exec (.round n [x] c) s
      = .next (if c then closeRound (roundPins (runBit x s)) else roundPins (runBit x s)) := by
  have follows : followRound n [x] s = runBit x s := by
    simp only [followRound, runBits, hs, reduceCtorEq, false_and, if_false, true_and, Config.samplePeriodOfBit,
      if_neg (Nat.not_le.2 hp)]
  rw [execRound_of_stands hr (by simp [State.roundStands, hs]), roundEffect, follows]
  rfl

/-! ### The LIF after a bit -/

theorem endOfVoid_leaves (r : RoundRecord) (s : State) : (endOfVoid r s).lif.state ≠ .round := by
  by_cases h : r.abandoned = true ∨ r.hasOutcome = false
  · simp [endOfVoid_without_outcome h, Lif.leave]
  · simp only [not_or, Bool.not_eq_true, Bool.not_eq_false] at h
    rw [endOfVoid_with_outcome h.1 h.2]
    have closing : (voidEnded s).lif.state = .closing := rfl
    split
    · simp [closing]
    · simp only [commitRound, commitJoin, judgeJoin]
      (repeat' split) <;> simp [closing, refuse_spec, admitStation]

theorem bitEnd_round (hr : s.re.record = some r) (h : (bitEnd s).lif.state = .round) : (bitEnd s).lif = s.lif.nextBit := by
  revert h
  simp only [bitEnd, hr]
  (repeat' split)
  · exact fun _ => rfl
  · exact fun h => absurd h (endOfVoid_leaves _ _)
  · exact fun h => absurd h (by simp [standAside_spec, Lif.leave])
  all_goals exact fun _ => rfl

theorem bitSample_round (hr : s.re.record = some r) (h : (bitSample x s).lif.state = .round) :
    (∃ q, (bitSample x s).re.record = some q) ∧ (bitSample x s).lif.bitPos = s.lif.bitPos
      ∧ (bitSample x s).lif.assertedRun = s.lif.assertedRun := by
  have lost : ∀ v : State, (lostSync v).lif.state ≠ .round := fun v => by simp [lostSync_spec, Lif.leave]
  revert h
  simp only [bitSample, hr]
  (repeat' split) <;> simp [lost, driveFault_spec]

/-- A bit that goes on in the round: the bit position is one further and the run counts the readings after the sample. -/
theorem wholeBit_round (hp : s.lif.period < 5) (ha : x = true → s.lif.assertedRun < 158)
    (hr : s.re.record = some r) (h : (finishBit x (bitSample x s)).lif.state = .round) :
    (finishBit x (bitSample x s)).lif.bitPos = s.lif.bitPos + 1 ∧ (finishBit x (bitSample x s)).lif.period = 0
      ∧ (finishBit x (bitSample x s)).lif.assertedRun = if x then s.lif.assertedRun + 3 else 0 := by
  by_cases hw : (bitSample x s).lif.state = .round
  · obtain ⟨⟨q, hq⟩, pos, run⟩ := bitSample_round hr hw
    rw [finishBit_in hw (bitSample_period x hw ▸ hp) (run ▸ ha)] at h ⊢
    rw [bitEnd_round (s := readFor x 3 (bitSample x s)) hq h]
    exact ⟨congrArg (· + 1) pos, rfl, by simp [readFor, run, Lif.nextBit]⟩
  · rw [finishBit_out hw] at h
    exact absurd h hw

/-- The LIF after the end of a whole bit (R10). -/
def Lif.bitDone (l : Lif) (x : Bool) : Lif :=
  { l with assertedRun := if x then l.assertedRun + 3 else 0, bitPos := l.bitPos + 1, period := 0 }

/-- A bit whose sample keeps the round: the rest of it is read, and it ends with the sampled record. -/
theorem wholeBit_sampled {q : RoundRecord} {l : Lif} (h : bitSample x s = setRecord (some q) (s.withLif l))
    (hs : l.state = .round) (hp : l.period < 5) (ha : x = true → l.assertedRun < 158) :
    finishBit x (bitSample x s) = bitEnd (readFor x 3 (setRecord (some q) (s.withLif l))) := by
  rw [h]
  exact finishBit_in hs hp ha

theorem wholeBit_loses (hr : s.re.record = some r)
    (h : r.current = .gap ∧ x = true ∨ r.current = .sep ∧ x = true ∧ s.lif.framing = true) :
    finishBit x (bitSample x s) = lostSync s := by
  rw [bitSample_loses hr h]
  exact finishBit_out (by simp [lostSync_spec, Lif.leave])

section InRound

variable (hs : s.lif.state = .round) (hp : s.lif.period < 5) (ha : x = true → s.lif.assertedRun < 158)
include hs hp ha

theorem wholeBit_framing (hr : s.re.record = some r)
    (h : r.current = .gap ∧ x = false ∨ r.current = .sep ∧ (x = false ∨ s.lif.framing = false)) :
    finishBit x (bitSample x s) = setRecord (some { r with
      seg := r.seg + 1, bit := 0, begun := false, samples := r.samples ++ [x] })
      (s.withLif ({ s.lif with framing := s.lif.framing || x }.bitDone x)) := by
  have part : r.current = .gap ∨ r.current = .sep := h.imp And.left And.left
  have last : ¬ r.bit + 1 < r.current.width := by rcases part with hc | hc <;> simp [hc, Seg.width]
  rw [wholeBit_sampled (bitSample_framing hr h) hs hp ha]
  exact bitEnd_next_part (f := .typ) (r := { r with samples := r.samples ++ [x] }) rfl (by tauto) last

/-- A bit that is not the last of its part, sampled without trouble: the next bit of the part (R10). -/
theorem wholeBit_next_bit {q : RoundRecord} (h : bitSample x s = setRecord (some q) s)
    (hb : q.bit + 1 < q.current.width) :
    finishBit x (bitSample x s) = setRecord (some { q with bit := q.bit + 1 }) (s.withLif (s.lif.bitDone x)) := by
  rw [wholeBit_sampled (l := s.lif) h hs hp ha]
  exact bitEnd_next_bit rfl hb

/-- The last bit of a field, sampled without trouble (R29). -/
theorem wholeBit_field_ends {q : RoundRecord} {f : Field} (h : bitSample x s = setRecord (some q) s)
    (hc : q.current = .field f) (hb : ¬ q.bit + 1 < q.current.width) : finishBit x (bitSample x s) =
      if (q.fieldDone f).standsAside then standAside (s.withLif (s.lif.bitDone x))
      else setRecord (some (q.fieldDone f)) (s.withLif (s.lif.bitDone x)) := by
  rw [wholeBit_sampled (l := s.lif) h hs hp ha]
  exact bitEnd_field (s := readFor x 3 (setRecord (some q) s)) rfl hc hb

end InRound

/-! ### A drive fault in a round -/

theorem abandoned_driveNow {q : RoundRecord} (h : q.abandoned = true) : q.driveNow = false := by
  simp [RoundRecord.driveNow, h]

/-- A drive fault before the void bit (R14, R36): the station listens on in the round, its record abandoned. -/
theorem wholeBit_driveFault (hs : s.lif.state = .round) (hp : s.lif.period < 5)
    (hr : s.re.record = some r) (hd : s.lif.drive = true) (hg : r.current ≠ .gap) (hsep : r.current ≠ .sep)
    (hv : r.current ≠ .void) (h : r.bit + 1 < r.current.width ∨ r.role = .member ∨ (if r.current = .field .typ
      then natOfBits (r.samples ++ [false]) ≠ 4 else r.rtype ≠ some .status)) :
    ∃ t q, finishBit false (bitSample false s) = t ∧ t.lif.state = .round ∧ t.lif.listener = true ∧ t.lif.drive = false
      ∧ t.re.record = some q ∧ q.abandoned = true ∧ t.re.unmarked
      ∧ (s.mc.state = .member → t.degradedBy .driveFault) := by
  generalize hw : driveFault (setRecord (some { r with samples := r.samples ++ [false] }) s) = w
  obtain ⟨hl, hrec, hm, -, hdeg⟩ := driveFault_spec (setRecord (some { r with samples := r.samples ++ [false] }) s)
  rw [hw] at hl hrec hm hdeg
  have finished : finishBit false w = bitEnd (readFor false 3 w) :=
    finishBit_in (by rw [hl]; exact hs) (by rw [hl]; exact hp) (by simp)
  obtain ⟨q, ended, -, -, hq⟩ := bitEnd_goes_on (s := readFor false 3 w)
    (r := { r with samples := r.samples ++ [false], abandoned := true }) hrec hv h
  refine ⟨_, q, rfl, ?_⟩
  rw [bitSample_driveFault hr hg hsep hd, hw, finished, ended]
  refine ⟨?_, ?_, ?_, rfl, hq, hm, hdeg⟩ <;> simp [readFor, Lif.nextBit, hl, hs]

/-- A drive fault at the void bit (R14, R22): the round is over for the station. -/
theorem wholeBit_driveFault_void (hs : s.lif.state = .round) (hp : s.lif.period < 5)
    (hr : s.re.record = some r) (hd : s.lif.drive = true) (hv : r.current = .void) :
    ∃ t, finishBit false (bitSample false s) = t ∧ t.lif.state = .idle ∧ t.lif.idleRun = 0 ∧ t.lif.drive = false
      ∧ t.re.record = none ∧ t.re.unmarked ∧ t.mc.counter = s.mc.counter
      ∧ (s.mc.state = .member → t.degradedBy .driveFault) := by
  generalize hw : driveFault (setRecord (some { r with samples := r.samples ++ [false] }) s) = w
  obtain ⟨hl, hrec, hm, hcount, hdeg⟩ := driveFault_spec (setRecord (some { r with samples := r.samples ++ [false] }) s)
  rw [hw] at hl hrec hm hcount hdeg
  have finished : finishBit false w = bitEnd (readFor false 3 w) :=
    finishBit_in (by rw [hl]; exact hs) (by rw [hl]; exact hp) (by simp)
  have ended := bitEnd_void (s := readFor false 3 w)
    (r := { r with samples := r.samples ++ [false], abandoned := true }) hrec hv
  rw [endOfVoid_without_outcome (.inl rfl)] at ended
  refine ⟨_, rfl, ?_⟩
  rw [bitSample_driveFault hr (by simp [hv]) (by simp [hv]) hd, hw, finished, ended]
  exact ⟨rfl, rfl, rfl, rfl, hm, hcount, hdeg⟩

end WholeBit

end Sys2Proof.Machine

namespace Sys2Proof.Machine

/-! ## The void bit at a Member (R22, R33 to R38, R75) -/

theorem bitBegin_re (s : State) : (bitBegin s).re = { s.re with record := (bitBegin s).re.record } := by
  simp only [bitBegin, segBegin]
  (repeat' split) <;> simp [setRecord]

/-- The first bit of the void bit's part, at a station that drives it: asserted for trouble (R22). -/
theorem bitBegin_void {s : State} {r : RoundRecord} (hr : s.re.record = some r) (hb : r.bit = 0) (hc : r.current = .void)
    (ha : r.abandoned = false) (hd : r.role = .member ∨ r.invalid = true) :
    bitBegin s = (setRecord (some { r with
      begun := true, drives := true, value := [s.lif.framing || r.mismatch || r.invalid], lost := false, samples := [] })
      s).withLif { s.lif with drive := s.lif.framing || r.mismatch || r.invalid } := by
  have drives : r.drivesVoid = true := by
    rcases hd with hd | hd <;> simp [RoundRecord.drivesVoid, RoundRecord.fullPart, hd]
  have drive : segDrive s r = some [s.lif.framing || r.mismatch || r.invalid] := by simp [segDrive, hc, ha, drives]
  have noted : ∀ q : RoundRecord, q.rtype = r.rtype → q.newLevels = r.newLevels → q.seg = r.seg →
      q.noteDriven s = q := fun q h1 h2 h3 => by
    have hq : q.current = .void := by rw [← hc, RoundRecord.current, RoundRecord.current, h1, h2, h3]
    simp [RoundRecord.noteDriven, hq]
  simp [bitBegin, hr, hb, segBegin, hc, drive, noted, setRecord, RoundRecord.driveNow, ha]

/-- A later bit of a part keeps the values taken at the first one (R10). -/
theorem bitBegin_later {s : State} {r : RoundRecord} (hr : s.re.record = some r) (hb : r.bit ≠ 0) :
    (bitBegin s).lif.drive = r.driveNow := by
  simp [bitBegin, hr, hb]

/-- The state in which a Member delivers the outcome of a round: Closing, the idle run at 0, the record standing (R12). -/
def atOutcome (q : RoundRecord) (l : Lif) (s : State) : State :=
  (s.withLif { l.leave .closing with idleRun := 0 }).withRe { s.re with record := some q, named := none }

/-- The record at the end of a void bit driven at d and sampled at x. -/
def RoundRecord.voidSampled (r : RoundRecord) (d x : Bool) : RoundRecord :=
  { r with begun := true, drives := true, value := [d], lost := false, samples := [x] }

/-- The void bit followed by a Member from its first period: begun, sampled without a drive fault, and its outcome. -/
theorem runBit_void {s : State} {r : RoundRecord} {x d : Bool} (hs : s.lif.state = .round) (hp : s.lif.period = 0)
    (ha : x = true → s.lif.assertedRun < 153) (hr : s.re.record = some r) (hrole : r.role = .member)
    (hc : r.current = .void) (hb : r.bit = 0) (hab : r.abandoned = false)
    (hd : d = (s.lif.framing || r.mismatch || r.invalid)) (hx : x = true ∨ d = false) :
    ∃ l : Lif, runBit x s = if x then voidRound (atOutcome (r.voidSampled d x) l s)
      else commitRound (r.voidSampled d x) (atOutcome (r.voidSampled d x) l s) := by
  have began := bitBegin_void hr hb hc hab (.inl hrole)
  rw [← hd] at began
  have five : ∀ w : State, readFor x (5 - s.lif.period) w = readFor x 5 w := fun w => by rw [hp]
  have sampled : bitSample x (readFor x 5 (bitBegin s))
      = setRecord (some (r.voidSampled d x)) (readFor x 5 (bitBegin s)) := by
    rw [began]
    exact bitSample_void (r := { r with begun := true, drives := true, value := [d], lost := false, samples := [] })
      rfl hc hx.symm
  have finished : runBit x s = bitEnd (readFor x 3 (setRecord (some (r.voidSampled d x)) (readFor x 5 (bitBegin s)))) := by
    rw [runBit_eq hs (by omega) ha, if_pos hp, five, sampled]
    obtain ⟨round, first, run⟩ : (bitBegin s).lif.state = .round ∧ (bitBegin s).lif.period = 0
        ∧ (bitBegin s).lif.assertedRun = s.lif.assertedRun := by
      rw [bitBegin_lif]
      exact ⟨hs, hp, rfl⟩
    refine finishBit_in round (by exact first ▸ Nat.zero_lt_succ 4) fun h => ?_
    have := ha h
    simp only [readFor, setRecord_frame, State.withLif_lif, run, h, if_true]
    omega
  rw [finished, bitEnd_void (r := r.voidSampled d x) rfl hc,
    endOfVoid_with_outcome (r := r.voidSampled d x) hab (hasOutcome_member hrole), began]
  exact ⟨_, rfl⟩

/-! ### A void round (R35, R38, R75) -/

/-- Offered causes are plain Pending again, or Idle when their expiry was held, with CauseExpired raised (R75). -/
theorem returnOffers_spec (s : State) : (returnOffers s).ct = { s.ct with slots := s.ct.slots.map Cause.unoffer, offers := [] }
    ∧ (returnOffers s).pl.refill = s.pl.refill ∧ (returnOffers s).pl.restore = s.pl.restore
    ∧ (returnOffers s).eventSet .causeExpired
      = (s.eventSet .causeExpired || s.ct.slots.any fun c => c.offered && c.expiryHeld) := by
  simp only [returnOffers]
  split
  next h => simp [h, raiseEvent, State.eventSet, Event.mask, Event.bit]
  next h => simp [h, State.eventSet]

theorem unoffer_offered (c : Cause) : c.unoffer.offered = false := by
  simp only [Cause.unoffer]
  grind [Cause.toIdle]

theorem slot_map {f : Cause → Cause} (hf : f .disabled = .disabled) {s t : State} (h : t.ct.slots = s.ct.slots.map f)
    (i : Nat) : t.slot i = f (s.slot i) := by
  simp only [State.slot, h, List.getD_eq_getElem?_getD, List.getElem?_map]
  cases s.ct.slots[i]? <;> simp [hf]

theorem voidRound_counts {s : State} (h : s.re.voids < 3) : voidRound s
    = (returnOffers (s.withRe s.re.clearMarks)).withRe { s.re.clearMarks with voids := s.re.voids + 1 } := by
  have few : s.re.voids + 1 < Config.voidRun := Nat.succ_lt_succ h
  simp only [voidRound, returnOffers_frame, State.withRe_re, clearMarks_voids, if_pos few]

theorem voidRound_runs_out {s : State} (h : s.re.voids = 3) : voidRound s = reportFault .voidRun
    ((returnOffers (s.withRe s.re.clearMarks)).withRe { s.re.clearMarks with voids := 0 }) := by
  have many : ¬ s.re.voids + 1 < Config.voidRun := by simp [h, Config.voidRun]
  simp only [voidRound, returnOffers_frame, State.withRe_re, clearMarks_voids, if_neg many]

/-- A void round below a run of four: nothing applied, the offers undone, the marks cleared and the void counted. -/
theorem voidRound_undoes {s : State} (h : s.re.voids < 3) :
    (voidRound s).re = { s.re.clearMarks with voids := s.re.voids + 1 } ∧ (voidRound s).mc = s.mc
    ∧ (voidRound s).ev = s.ev ∧ (voidRound s).cu = s.cu ∧ noticeFrame s (voidRound s) ∧ (voidRound s).mpc = s.mpc
    ∧ (voidRound s).mu = s.mu ∧ (voidRound s).da = s.da
    ∧ (voidRound s).ct = { s.ct with slots := s.ct.slots.map Cause.unoffer, offers := [] }
    ∧ (voidRound s).eventSet .causeExpired
      = (s.eventSet .causeExpired || s.ct.slots.any fun c => c.offered && c.expiryHeld) := by
  obtain ⟨ct, refill, restore, event⟩ := returnOffers_spec (s.withRe s.re.clearMarks)
  rw [voidRound_counts h]
  exact ⟨rfl, by simp, by simp, by simp, ⟨refill, restore, by simp⟩, by simp, by simp, by simp, ct, event⟩

/-- The fourth void in a row takes a Member to Degraded, its round wants gone (R38, R47). -/
theorem voidRound_degrades {s : State} (hm : s.mc.state = .member) (h : s.re.voids = 3) :
    (voidRound s).degradedBy .voidRun ∧ (voidRound s).re.voids = 0 ∧ (voidRound s).re.status = .clear
    ∧ (voidRound s).re.census = .clear ∧ (voidRound s).re.rest = .clear := by
  rw [voidRound_runs_out h]
  generalize hb : State.withRe (returnOffers _) _ = b
  have member : b.mc.state = .member := by simp [← hb, hm]
  have left : reportFault .voidRun b = memberToDegraded .voidRun b := by simp only [reportFault, member]
  obtain ⟨-, status, census, rest, voids⟩ := memberToDegraded_wants .voidRun b
  exact ⟨reportFault_degrades_member member, left ▸ voids, left ▸ status, left ▸ census, left ▸ rest⟩

/-! ### ROUND at the void bit -/

/-- A round that is closed in the step of its outcome: Idle, the record gone (R12, R17). -/
theorem closeRound_closing {s : State} (h : s.lif.state = .closing) :
    closeRound s = (s.withLif { s.lif with state := .idle }).withRe { s.re with record := none } := if_pos h

/-- What stands when the sample of a bit is taken: the LIF with the bit's drive value and its readings, and the record. -/
theorem runBit_from {s u : State} {r : RoundRecord} {x : Bool} (hs : s.lif.state = .round) (hp : s.lif.period < 5)
    (ha : x = true → s.lif.assertedRun < 153) (hu : u = if s.lif.period = 0 then bitBegin s else s)
    (hr : u.re.record = some r) : ∃ v : State, runBit x s = finishBit x (bitSample x v) ∧ v.lif = { s.lif with
        drive := u.lif.drive, assertedRun := if x then s.lif.assertedRun + (5 - s.lif.period) else 0 }
      ∧ v.re = { s.re with record := some r } ∧ v.mc = s.mc := by
  have begun : u.re = { s.re with record := some r } ∧ u.mc = s.mc ∧ u.lif = { s.lif with drive := u.lif.drive } := by
    rw [← hr, hu]
    split
    · exact ⟨bitBegin_re s, by simp, bitBegin_lif s⟩
    · exact ⟨rfl, rfl, rfl⟩
  obtain ⟨ure, umc, ulif⟩ := begun
  refine ⟨readFor x (5 - s.lif.period) u, hu ▸ runBit_eq hs hp ha, ?_, ure, umc⟩
  rw [readFor, State.withLif_lif, ulif]

/-- Settles O24. -/
theorem roundVoidAtTheMember : Obligations.RoundVoidAtTheMember := by
  refine ⟨fun s u r x n hr hs hp ha hu hrec hab => ?_, fun f => by cases f <;> simp [Field.arbitrated],
    fun s r hrec hc hb hab hd => ?_, fun s r n hr hm hs hp ha hrec hrole hc hb hab => ?_⟩
  · obtain ⟨v, run, vlif, vre, vmc⟩ := runBit_from (x := x) hs hp (fun _ => ha) hu hrec
    have vs : v.lif.state = .round := by rw [vlif]; exact hs
    have vfr : v.lif.framing = s.lif.framing := by rw [vlif]
    have vd : v.lif.drive = u.lif.drive := by rw [vlif]
    have vrec : v.re.record = some r := by rw [vre]
    have vperiod : v.lif.period < 5 := by rw [vlif]; exact hp
    have vasserted : x = true → v.lif.assertedRun < 158 := fun hx => by
      simp only [vlif, hx, if_true]
      omega
    refine ⟨roundPins (runBit x s), exec_round_one_bit n false hr hs hp, ?_⟩
    rw [run]
    refine ⟨fun h => ?_, fun h => ?_, fun h => ?_, fun f hf hd hx hg => ?_, fun hc hd hx => ?_, fun f hc hd hb => ?_,
      fun f hc hd hb => ?_, fun hc hb hd => ?_⟩
    · obtain ⟨h1, h2, h3⟩ := wholeBit_round vperiod vasserted vrec h
      rw [vlif] at h1 h3
      refine ⟨h1, h2, h3.trans ?_⟩
      cases x
      · rfl
      · simp only [if_true]
        omega
    · rw [wholeBit_loses vrec (vfr ▸ h)]
      obtain ⟨hl, hn⟩ := lostSync_spec v
      obtain ⟨hj, hvd⟩ := lostSync_wants v
      rw [vmc] at hj hvd
      refine ⟨by simp [roundPins, hl, Lif.leave], by simp [roundPins, hl], by simp [roundPins, hl, Lif.leave], hn,
        fun hm => (hj hm).trans (by rw [vre]), hvd.trans (by rw [vre]), fun hm => ?_⟩
      obtain ⟨h1, h2, -, h4⟩ := lostSync_degrades (s := v) (vmc ▸ hm)
      exact ⟨h1, h2, h4⟩
    · rw [wholeBit_framing vs vperiod vasserted vrec (vfr ▸ h)]
      refine ⟨vs, by rw [← vfr]; rfl, vmc, ?_⟩
      simp [roundPins, setRecord, vre]
    · subst hx
      have part : r.current ≠ .gap ∧ r.current ≠ .sep ∧ r.current ≠ .void := by rcases hf with hf | hf <;> simp [hf]
      have goes : r.bit + 1 < r.current.width ∨ r.role = .member ∨ (if r.current = .field .typ
          then natOfBits (r.samples ++ [false]) ≠ 4 else r.rtype ≠ some .status) := by
        by_cases htyp : r.current = .field .typ
        · simp only [htyp, if_true] at hg ⊢
          rcases hg with hg | hg | hg
          · exact .inr (.inl hg)
          · exact .inl (Nat.succ_lt_succ hg)
          · exact .inr (.inr hg)
        · rw [if_neg htyp] at hg ⊢
          exact .inr hg
      obtain ⟨t, q, he, h1, h2, h3, h4, h5, ⟨h6, h7, h8, h9⟩, h10⟩ :=
        wholeBit_driveFault vs vperiod vrec (vd ▸ hd) part.1 part.2.1 part.2.2 goes
      rw [he]
      refine ⟨h1, h2, h3, ⟨q, h4, h5, abandoned_driveNow h5⟩, h6, h7, h8, h9, fun hm => ?_⟩
      obtain ⟨d1, d2, -, d4⟩ := h10 (vmc ▸ hm)
      exact ⟨d1, d2, d4⟩
    · subst hx
      obtain ⟨t, he, h1, h2, h3, h4, ⟨h6, h7, h8, h9⟩, hcount, h10⟩ :=
        wholeBit_driveFault_void vs vperiod vrec (vd ▸ hd) hc
      rw [he]
      refine ⟨h1, h2, h3, h4, h6, h7, h8, h9, hcount.trans (by rw [vmc]), fun hm => ?_⟩
      obtain ⟨d1, d2, -, d4⟩ := h10 (vmc ▸ hm)
      exact ⟨d1, d2, d4⟩
    · have next : r.bit + 1 < r.current.width := hc ▸ hb
      rw [wholeBit_next_bit vs vperiod vasserted (bitSample_field vrec hc (vd ▸ hd)) next]
      refine ⟨vs, vmc, ?_, fun hl => ?_⟩
      · simp [roundPins, setRecord, vre, RoundRecord.fieldSampled, RoundRecord.beaten, hab, vd, Bool.and_assoc]
      · have lost : (r.fieldSampled f v.lif.drive x).lost = true := by
          rcases hl with hl | ⟨h1, h2, h3, h4⟩
          · simp [RoundRecord.fieldSampled, hl]
          · simp [RoundRecord.fieldSampled, RoundRecord.beaten, hab, vd, h1, h2, h3, h4]
        rw [bitBegin_later rfl (Nat.succ_ne_zero _)]
        simp [RoundRecord.driveNow, lost]
    · have next : r.bit + 1 < r.current.width := hc ▸ hb
      rw [wholeBit_next_bit vs vperiod vasserted (bitSample_confirm vrec hc (vd ▸ hd)) next]
      refine ⟨vs, vmc, ?_⟩
      simp [roundPins, setRecord, vre, RoundRecord.beaten, hab, vd]
    · have last : ¬ r.bit + 1 < r.current.width := by simp [hc, hb, Seg.width, Field.width]
      rw [wholeBit_field_ends vs vperiod vasserted (bitSample_field vrec hc (vd ▸ hd)) hc last]
      refine ⟨fun hn h4 => ?_, fun h => ?_⟩
      · rw [if_pos ((standsAside_iff .typ (r.fieldSampled .typ v.lif.drive x)).2 ⟨hn, h4⟩)]
        exact ⟨rfl, rfl, rfl, vmc, by simp [roundPins, standAside_spec, vre]⟩
      · have follows : ¬ ((r.fieldSampled .typ v.lif.drive x).fieldDone .typ).standsAside = true := by
          rw [standsAside_iff]
          rintro ⟨hn, ht⟩
          rcases h with h | h
          · exact absurd (h.symm.trans hn) (by decide)
          · exact h ht
        rw [if_neg follows]
        refine ⟨vs, vmc, _, rfl, rfl, ofCode_eq _, rfl, ?_⟩
        cases hdr : r.drives <;> simp [RoundRecord.fieldDone, RoundRecord.fieldSampled, RoundRecord.beaten,
          Field.arbitrated, hdr, hab, vd, Bool.and_assoc]
  · rw [bitBegin_void hrec hb hc hab hd]
    simp [or_assoc]
  · obtain ⟨l, hl⟩ := runBit_void hs hp (fun _ => ha) hrec hrole hc hb hab rfl (x := true) (.inl rfl)
    generalize (s.lif.framing || r.mismatch || r.invalid) = d at hl
    rw [if_pos rfl] at hl
    have closed := exec_round_one_bit (x := true) n true hr hs (by omega)
    rw [if_pos rfl, hl, closeRound_closing (by simp [roundPins, atOutcome, Lif.leave])] at closed
    refine ⟨_, closed, rfl, ?_, rfl, ?_, fun hv => ?_, fun hv => ?_⟩
    · simp [roundPins, atOutcome, Lif.leave]
    · simp only [roundPins, State.withRe_mc, State.withLif_mc, State.withPins_mc, voidRound]
      split <;> simp [atOutcome]
    · obtain ⟨re, mc, ev, cu, notices, mpc, mu, da, ct, event⟩ :=
        voidRound_undoes (s := atOutcome (r.voidSampled d true) l s) hv
      have slots : ∀ i, (voidRound (atOutcome (r.voidSampled d true) l s)).slot i = (s.slot i).unoffer :=
        slot_map (f := Cause.unoffer) rfl (congrArg Ct.slots ct)
      have unoffered : ∀ c ∈ (voidRound (atOutcome (r.voidSampled d true) l s)).ct.slots, c.offered = false := by
        rw [ct]
        intro c hcs
        obtain ⟨c', -, rfl⟩ := List.mem_map.1 hcs
        exact unoffer_offered c'
      have offers := congrArg Ct.offers ct
      have timers := congrArg Ct.timers ct
      have sense := congrArg Ct.sense ct
      have voids := congrArg Re.voids re
      have status := congrArg Re.status re
      have rest := congrArg Re.rest re
      have census := congrArg Re.census re
      have join := congrArg Re.join re
      exact ⟨voids, mc, ev, cu, notices, mpc, mu, da, status, rest, census, join, offers, timers, sense, slots, event,
        unoffered⟩
    · obtain ⟨⟨state, fault, rejoin, event⟩, voids, status, census, rest⟩ :=
        voidRound_degrades (s := atOutcome (r.voidSampled d true) l s) hm hv
      exact ⟨voids, state, fault, rejoin, event, congrArg Want.held status, congrArg Want.held census,
        congrArg Want.held rest⟩

end Sys2Proof.Machine

namespace Sys2Proof.Machine

/-! ## The episode view at a commit (R84 to R93, R95, R100 to R103) -/

section View

variable (s : State)

theorem setTable_ev (t : List Entry) : (setTable t s).ev = { s.ev with table := t } := by
  simp only [setTable]
  split <;> simp

theorem setAlarm_ev (a : Alarms) : (setAlarm a s).ev = { s.ev with alarm := a } := by
  simp only [setAlarm]
  split <;> simp

/-- A move of the network state keeps what the view holds besides it and its two timers. -/
theorem setNet_ev (n : NetState) : (setNet n s).ev.net = n ∧ (setNet n s).ev.grade = s.ev.grade
    ∧ (setNet n s).ev.alarm = s.ev.alarm ∧ (setNet n s).ev.table = s.ev.table := by
  simp only [setNet, batteryOnNetChange_frame]
  split <;> simp [withdrawRest]

/-- The levels of the table for a hold map are the levels of the map. -/
theorem tableFor_levels (h : HoldMap) {fresh : Level → Entry} (hf : ∀ l, (fresh l).level = l) (t : List Entry) :
    (tableFor h fresh t).map (·.level) = levels.filter (holdHas h) := by
  have entry : ∀ l, ((t.find? fun x => x.level == l).getD (fresh l)).level = l := fun l => by
    cases hx : t.find? (fun x => x.level == l) with
    | none => exact hf l
    | some x =>
      have found := List.find?_some hx
      exact eq_of_beq found
  simp only [tableFor, List.map_map]
  exact (List.map_congr_left fun l _ => entry l).trans (List.map_id _)

theorem view_levels (d : HoldMap) (t : List Entry) : (resuspend (markOwn d t)).map (·.level) = t.map (·.level) := by
  simp [resuspend, markOwn, Function.comp_def]

theorem view_own (d : HoldMap) (t : List Entry) : ∀ x ∈ resuspend (markOwn d t), x.own = holdHas d x.level := by
  simp only [resuspend, markOwn, List.map_map, List.mem_map]
  rintro _ ⟨x, -, rfl⟩
  rfl

/-- The view after a Status commit or decision (R86 to R91). -/
theorem evStatus_ev (v : StatusValues) (d : HoldMap) (o : Option Half) : (evStatus v d o s).ev.grade = v.pressure
    ∧ (evStatus v d o s).ev.alarm = v.alarm
    ∧ (evStatus v d o s).ev.table.map (·.level) = levels.filter (holdHas v.hold)
    ∧ ∀ x ∈ (evStatus v d o s).ev.table, x.own = holdHas d x.level := by
  simp only [evStatus, setTable_ev, setAlarm_ev, setNet_ev, view_levels]
  exact ⟨rfl, trivial, tableFor_levels _ (fun _ => rfl) _, view_own _ _⟩

/-- The view after a Rest commit or decision (R95, R101). -/
theorem evRest_ev (h d : HoldMap) (b : Bool) : (evRest h d b s).ev.grade = s.ev.grade
    ∧ (evRest h d b s).ev.net = netAfterRest (h != 0 || b)
    ∧ (evRest h d b s).ev.table.map (·.level) = levels.filter (holdHas h) := by
  simp only [evRest, setTable_ev, setNet_ev, view_levels, true_and]
  exact tableFor_levels _ (fun _ => rfl) _

/-- A Status commit at the view withdraws at most the Rest want (R103). -/
theorem evStatus_raisesOnly (v : StatusValues) (d : HoldMap) (o : Option Half) :
    ∃ w, raisesOnly (s.withRe { s.re with rest := w }) (evStatus v d o s) := by
  simp only [evStatus]
  generalize hn : setNet (netAfterStatus (v.hold != 0 || v.objection) _) _ = n
  have moved : n.lif = s.lif ∧ n.mc = s.mc ∧ n.pl = s.pl ∧ ∃ w, n.re = { s.re with rest := w } := by
    subst hn
    exact ⟨by simp, by simp, by simp, _, setNet_re _ _⟩
  obtain ⟨hl, hm, hp, w, hre⟩ := moved
  exact ⟨w, raisesOnly_trans (raisesOnly_trans (raisesOnly_of_eq hl (by rw [hm]; rfl) hre hp) (setAlarm_raisesOnly _ _))
    (setTable_raisesOnly _ _)⟩

theorem evStatus_status (v : StatusValues) (d : HoldMap) (o : Option Half) :
    (evStatus v d o s).re.status = s.re.status := by
  simp [evStatus, setNet_re]

/-- A Rest commit at the view withdraws the Rest want at a move from Settling to Awake (R103). -/
theorem evRest_raisesOnly (h d : HoldMap) (b : Bool) : raisesOnly (s.withRe { s.re with
    rest := if s.ev.net = .settling ∧ netAfterRest (h != 0 || b) = .awake then .clear else s.re.rest })
    (evRest h d b s) := by
  simp only [evRest]
  exact raisesOnly_trans (raisesOnly_of_eq (by simp) (by simp) (setNet_re _ _) (by simp)) (setTable_raisesOnly _ _)

end View

/-! ## The causes at a commit (R74 to R77) -/

section Causes

variable (s : State)

/-- The source of a slot other than the alarm slot does not depend on the view (R62, R65, R66). -/
theorem sourceActive_congr {s t : State} {i : Nat} (hi : i ≠ 6) (hs : t.settings = s.settings)
    (hc : t.ct.sense = s.ct.sense) : t.sourceActive i = s.sourceActive i := by
  simp [State.sourceActive, hi, hs, hc]

/-- A cause after the acceptance of the offers (R74). -/
def Cause.accepted (c : Cause) (o : Option Half) (active : Bool) : Cause := if c.offered then c.accept o active else c

/-- A cause after curtailment at a floor (R76). -/
def Cause.curtailedAt (c : Cause) (floor : Level) : Cause :=
  if c.holding && decide (c.level ≤ floor) then c.toIdle else c

theorem curtailedAt_of_le {c : Cause} {floor : Level} (h : c.holding = true) (hl : c.level ≤ floor) :
    c.curtailedAt floor = c.toIdle := by simp [Cause.curtailedAt, h, hl]

theorem curtailedAt_of_lt {c : Cause} {floor : Level} (hl : floor < c.level) : c.curtailedAt floor = c := by
  simp [Cause.curtailedAt, not_le.2 hl]

theorem accept_spec (c : Cause) (o : Option Half) (b : Bool) : (c.accept o b).holding = true
    ∧ (c.accept o b).level = c.level ∧ (c.accept o b).offered = false ∧ (c.accept o b).toIdle = c.toIdle := by
  simp only [Cause.accept, Cause.holding, Cause.toLingering, Cause.toIdle]
  split <;> simp

theorem accepted_offered (c : Cause) (o : Option Half) (b : Bool) : (c.accepted o b).offered = false := by
  simp only [Cause.accepted]
  split
  · exact (accept_spec c o b).2.2.1
  next h => simpa using h

theorem accepted_level (c : Cause) (o : Option Half) (b : Bool) : (c.accepted o b).level = c.level := by
  simp only [Cause.accepted]
  split
  · exact (accept_spec c o b).2.1
  · rfl

theorem accepted_holding (c : Cause) (o : Option Half) (b : Bool) :
    (c.accepted o b).holding = (c.offered || c.holding) := by
  simp only [Cause.accepted]
  split
  next h => simp [h, accept_spec c o b]
  next h => simp [h]

theorem acceptOffers_slots (o : Option Half) : (acceptOffers o s).ct.slots
    = s.ct.slots.mapIdx fun i c => c.accepted o (s.sourceActive i) := rfl

theorem acceptOffers_slot (o : Option Half) (i : Nat) :
    (acceptOffers o s).slot i = (s.slot i).accepted o (s.sourceActive i) := by
  simp only [State.slot, acceptOffers_slots, List.getD_eq_getElem?_getD, List.getElem?_mapIdx]
  cases s.ct.slots[i]? <;> simp [Cause.accepted, Cause.disabled]

theorem curtail_slots : (curtail s).ct.slots = s.ct.slots.map fun c => c.curtailedAt s.austerity := by
  simp only [curtail]
  split
  · simp only [raiseStatus_frame, raiseEvent_frame, State.withCt_ct]
    rfl
  next h =>
    have none_curtailed : ∀ c ∈ s.ct.slots, c.curtailedAt s.austerity = c := fun c hc => by
      have kept : ¬ s.curtails c = true := fun hk => h (List.any_eq_true.2 ⟨c, hc, hk⟩)
      exact if_neg kept
    exact ((List.map_congr_left none_curtailed).trans (List.map_id _)).symm

theorem curtail_slot (i : Nat) : (curtail s).slot i = (s.slot i).curtailedAt s.austerity :=
  slot_map (f := fun c => c.curtailedAt s.austerity) rfl (curtail_slots s) i

theorem trigger_slot_ne {i j : Nat} (h : i ≠ j) : (trigger i s).slot j = s.slot j := by
  have raised : ∀ t : State, (raiseStatus t).slot j = t.slot j := fun t => by simp [State.slot]
  simp only [trigger]
  (repeat' split) <;> simp [raised, slot_setSlot_ne _ _ _ _ h]

theorem alarmSlot_slot_ne (b : Alarms) {j : Nat} (h : j ≠ 6) : (alarmSlot b s).slot j = s.slot j := by
  simp only [alarmSlot]
  split
  · rw [trigger_slot_ne _ h.symm, slot_setSlot_ne _ _ _ _ h.symm]
  · rw [slot_setSlot_ne _ _ _ _ h.symm]

/-- The floor of the committed grade, as the CT sees it through the commit. -/
theorem acceptOffers_austerity (o : Option Half) : (acceptOffers o s).austerity = s.austerity := by
  simp [State.austerity, settings_congr s (acceptOffers o s) (by simp) (by simp)]

/-- A slot other than the alarm slot after a Status commit: accepted, then curtailed (R74, R76). -/
theorem ctStatus_slot (o : Option Half) (b : Alarms) {i : Nat} (h : i ≠ 6) :
    (ctStatus o b s).slot i = ((s.slot i).accepted o (s.sourceActive i)).curtailedAt s.austerity := by
  have wanted : ∀ t : State, (wantAcceptable t).slot i = t.slot i := fun t => by simp [State.slot]
  rw [ctStatus, alarmSlot_slot_ne _ _ h, wanted, curtail_slot, acceptOffers_slot, acceptOffers_austerity]

/-- An offered cause above the floor holds, the round that opened it noted (R74). -/
theorem commit_accepts {c : Cause} {o : Option Half} {active : Bool} {floor : Level} (h : c.offered = true)
    (hl : floor < c.level) : (c.accepted o active).curtailedAt floor = { c with
      offered := false, merged := false, expiryHeld := false, opened := o
      state := if c.mode = .level ∧ active = true then .held else .lingering
      countdown := if c.mode = .level ∧ active = true then 0 else 4 * c.linger.toNat } := by
  rw [curtailedAt_of_lt (by rw [accepted_level]; exact hl), Cause.accepted, if_pos h]
  simp only [Cause.accept, Cause.toLingering, Cause.lingerTicks]
  split <;> rfl

/-- An offered or holding cause at or below the floor goes to Idle (R76). -/
theorem commit_curtails {c : Cause} {o : Option Half} {active : Bool} {floor : Level}
    (h : c.offered = true ∨ c.holding = true) (hl : c.level ≤ floor) :
    (c.accepted o active).curtailedAt floor = c.toIdle := by
  have holds : (c.accepted o active).holding = true := by rw [accepted_holding]; rcases h with h | h <;> simp [h]
  rw [curtailedAt_of_le holds (by rw [accepted_level]; exact hl), Cause.accepted]
  split
  · exact (accept_spec c o active).2.2.2
  · rfl

/-- Any other cause stands. -/
theorem commit_keeps {c : Cause} {o : Option Half} {active : Bool} {floor : Level} (h : c.offered = false)
    (hl : c.holding = false ∨ floor < c.level) : (c.accepted o active).curtailedAt floor = c := by
  rw [Cause.accepted, if_neg (by simp [h])]
  rcases hl with hl | hl
  · simp [Cause.curtailedAt, hl]
  · exact curtailedAt_of_lt hl

end Causes

end Sys2Proof.Machine

namespace Sys2Proof.Machine

/-! ## What a Status commit leaves of the causes and their wants (R74 to R77) -/

section Judged

variable {s : State}

theorem slot_offered (h : ∀ c ∈ s.ct.slots, c.offered = false) (i : Nat) : (s.slot i).offered = false := by
  simp only [State.slot, List.getD_eq_getElem?_getD]
  cases hi : s.ct.slots[i]? with
  | none => rfl
  | some c => exact h c (List.mem_of_getElem? hi)

theorem setSlot_none_offered {i : Nat} {c : Cause} (h : ∀ c ∈ s.ct.slots, c.offered = false) (hc : c.offered = false) :
    ∀ d ∈ (setSlot i c s).ct.slots, d.offered = false := fun d hd =>
  (List.mem_or_eq_of_mem_set hd).elim (h d) fun e => e ▸ hc

theorem follow_offered (c : Cause) (b : Bool) : (c.follow b).offered = c.offered := by
  simp only [Cause.follow]
  (repeat' split) <;> rfl

theorem trigger_none_offered {i : Nat} (h : ∀ c ∈ s.ct.slots, c.offered = false) :
    ∀ c ∈ (trigger i s).ct.slots, c.offered = false := by
  have slot := slot_offered h i
  simp only [trigger]
  split
  · exact h
  · simp only [raiseStatus_frame]
    exact setSlot_none_offered h rfl
  · exact setSlot_none_offered h slot
  · exact h
  · exact iteInduction (motive := fun t : State => ∀ c ∈ t.ct.slots, c.offered = false)
      (fun _ => setSlot_none_offered h slot) fun _ => h

/-- After a Status commit or decision no cause is offered (R74). -/
theorem ctStatus_none_offered (o : Option Half) (b : Alarms) : ∀ c ∈ (ctStatus o b s).ct.slots, c.offered = false := by
  have accepted : ∀ c ∈ (acceptOffers o s).ct.slots, c.offered = false := fun c hc => by
    rw [acceptOffers_slots, List.mem_mapIdx] at hc
    obtain ⟨i, hi, rfl⟩ := hc
    exact accepted_offered _ _ _
  have curtailed : ∀ c ∈ (wantAcceptable (curtail (acceptOffers o s))).ct.slots, c.offered = false := fun c hc => by
    simp only [wantAcceptable_frame, curtail_slots, List.mem_map] at hc
    obtain ⟨d, hd, rfl⟩ := hc
    exact iteInduction (motive := fun c : Cause => c.offered = false) (fun _ => rfl) fun _ => accepted d hd
  have followed := setSlot_none_offered (i := 6) curtailed
    ((follow_offered _ (State.sourceActive (wantAcceptable (curtail (acceptOffers o s))) 6)).trans (slot_offered curtailed 6))
  exact iteInduction (motive := fun t : State => ∀ c ∈ t.ct.slots, c.offered = false)
    (fun _ => trigger_none_offered followed) fun _ => followed

/-- A cause that takes part at or below the floor is curtailed: the event is raised and the Status want held (R76). -/
theorem ctStatus_curtails (hm : s.mc.state = .member) (o : Option Half) (b : Alarms)
    (h : ∃ c ∈ s.ct.slots, (c.offered = true ∨ c.holding = true) ∧ c.level ≤ s.austerity) :
    (ctStatus o b s).eventSet .causeCurtailed = true ∧ (ctStatus o b s).re.status.held = true := by
  obtain ⟨c, hc, hp, hl⟩ := h
  obtain ⟨i, hi⟩ := List.mem_iff_getElem?.1 hc
  have found : (acceptOffers o s).ct.slots.any (acceptOffers o s).curtails = true := by
    refine List.any_eq_true.2 ⟨c.accepted o (s.sourceActive i), ?_, ?_⟩
    · refine List.mem_of_getElem? (i := i) ?_
      simp [acceptOffers_slots, hi]
    · have holds : (c.accepted o (s.sourceActive i)).holding = true := by
        rw [accepted_holding]
        rcases hp with hp | hp <;> simp [hp]
      simp [State.curtails, holds, accepted_level, acceptOffers_austerity, hl]
  have raised : (curtail (acceptOffers o s)).eventSet .causeCurtailed = true
      ∧ (curtail (acceptOffers o s)).re.status.held = true := by
    rw [curtail, if_pos found]
    refine ⟨?_, raiseStatus_held _ (by simpa using hm)⟩
    rw [State.eventSet, (raiseStatus_frame _).2.2.2.2.2.2.2.1]
    exact (eventSet_raiseEvent ..).trans (by simp)
  obtain ⟨-, -, -, -, held, -, -, -, events⟩ := raisesOnly_trans (wantAcceptable_raisesOnly (curtail (acceptOffers o s)))
    (alarmSlot_raisesOnly b _)
  exact ⟨events _ raised.1, held raised.2⟩

theorem setSlot_self (i : Nat) (s : State) : setSlot i (s.slot i) s = s := by
  have same : s.ct.slots.set i (s.slot i) = s.ct.slots := by
    refine List.ext_getElem? fun j => ?_
    rw [List.getElem?_set, State.slot, List.getD_eq_getElem?_getD]
    grind
  rw [setSlot, same]
  rfl

/-- With no cause at work and the alarm slot disabled, a Status commit raises no want (R74 to R77). -/
theorem ctStatus_quiet (o : Option Half) (b : Alarms) (hq : ∀ c ∈ s.ct.slots, c.state = .disabled ∨ c.state = .idle)
    (ho : ∀ c ∈ s.ct.slots, c.offered = false) (h6 : (s.slot 6).state = .disabled) :
    (ctStatus o b s).re = s.re := by
  have slots : (acceptOffers o s).ct.slots = s.ct.slots := by
    refine List.ext_getElem? fun i => ?_
    rw [acceptOffers_slots, List.getElem?_mapIdx]
    cases hi : s.ct.slots[i]? with
    | none => rfl
    | some c => simp [Cause.accepted, ho c (List.mem_of_getElem? hi)]
  generalize ha : acceptOffers o s = a at slots
  have are : a.re = s.re := ha ▸ by simp
  have uncurtailed : curtail a = a := if_neg fun h => by
    obtain ⟨c, hc, hk⟩ := List.any_eq_true.1 h
    have holding : c.holding = false := by rcases hq c (slots ▸ hc) with h | h <;> simp [Cause.holding, h]
    simp [State.curtails, holding] at hk
  have unwanted : wantAcceptable a = a := if_neg fun h => by
    obtain ⟨c, hc, hk⟩ := List.any_eq_true.1 h
    rcases hq c (slots ▸ hc) with h | h <;> simp [State.offerable, h] at hk
  have disabled : (a.slot 6).state = .disabled := by rw [State.slot, slots]; exact h6
  have followed : (a.slot 6).follow (a.sourceActive 6) = a.slot 6 := by simp [Cause.follow, disabled]
  rw [ctStatus, ha, uncurtailed, unwanted, alarmSlot, followed, setSlot_self, ← are]
  split
  · simp [trigger, disabled]
  · rfl

end Judged

/-! ## The module at a commit (R114 to R119, R122, R126, R127) -/

section Power

variable (s : State)

/-- A switch of RAILA to on leaves the balance alone (R154, R158). -/
theorem railOn_balance : (railOn s).da.spent = s.da.spent ∧ (railOn s).da.exhausted = s.da.exhausted := by
  simp [railOn, drainRailOn]

theorem evaluateNeed_balance : (evaluateNeed s).da.spent = s.da.spent ∧ (evaluateNeed s).da.exhausted = s.da.exhausted := by
  simp only [evaluateNeed]
  (repeat' split) <;> simp [enterPowering, overrideCut, railOn_balance]

theorem restoreModule_balance :
    (restoreModule s).da.spent = s.da.spent ∧ (restoreModule s).da.exhausted = s.da.exhausted := by
  simp only [restoreModule]
  split <;> simp [evaluateNeed_balance]

theorem mpcStatus_balance (b : Bool) :
    (mpcStatus b s).da.spent = s.da.spent ∧ (mpcStatus b s).da.exhausted = s.da.exhausted := by
  simp only [mpcStatus, evaluateNeed_balance]
  split <;> simp [restoreModule_balance]

theorem refill_balance : (refill s).da.spent = 0 ∧ (refill s).da.exhausted = false := by
  simp [refill, recomputeGrades_da, regrade]

/-- An evaluation keeps a module that is not Cut out of Cut, with the feed and the loud count as they are (R115). -/
theorem evaluateNeed_feeds (h : s.mpc.state ≠ .cut ∧ s.mpc.feed = true ∧ s.mpc.loud = 0) :
    (evaluateNeed s).mpc.state ≠ .cut ∧ (evaluateNeed s).mpc.feed = true ∧ (evaluateNeed s).mpc.loud = 0 := by
  obtain ⟨hs, hf, hl⟩ := h
  simp only [evaluateNeed]
  split
  · exact ⟨hs, hf, hl⟩
  · split
    · split <;> simp [recordNeed, enterPowering, Mpc.moveTo, hs, hf, hl]
    · simp [recordNeed, hs, hf, hl]
    · simp only [evaluateOn]
      split <;> simp [enterParking, Mpc.moveTo, hl]
    · split <;> simp [recordNeed, cancelPark, Mpc.moveTo, hs, hf, hl]
    next hc => exact absurd hc hs

/-- A Restore takes a Cut module out of Cut (R127). -/
theorem mpcStatus_restores (h : s.mpc.state = .cut) :
    (mpcStatus true s).mpc.state ≠ .cut ∧ (mpcStatus true s).mpc.feed = true ∧ (mpcStatus true s).mpc.loud = 0 := by
  refine evaluateNeed_feeds _ ?_
  simp only [if_true, restoreModule, h]
  exact evaluateNeed_feeds _ (by simp [leaveCut, Mpc.moveTo])

/-- An evaluation that keeps the module state raises no want (R116, R119, R122, R126). -/
theorem evaluateNeed_quiet (h : (evaluateNeed s).mpc.state = s.mpc.state) : (evaluateNeed s).re = s.re := by
  revert h
  simp only [evaluateNeed]
  split
  · exact fun _ => rfl
  · split
    next hs => split <;> simp [recordNeed, enterPowering, Mpc.moveTo, hs]
    next hs => simp [recordNeed]
    next hs =>
      simp only [evaluateOn]
      split <;> simp [enterParking, Mpc.moveTo, hs]
    next hs => split <;> simp [recordNeed, cancelPark, Mpc.moveTo, hs]
    next hs => split <;> simp [recordNeed, overrideCut, enterPowering, Mpc.moveTo, hs]

end Power

end Sys2Proof.Machine

namespace Sys2Proof.Machine

/-! ## A Status commit in its order: RE and MC, EV, CT, DA, MPC, then PL and CU (R34) -/

section StatusCommit

variable (r : RoundRecord) (s : State)

/-- The wants named are settled and the counter advanced (R33, R37). -/
def statusTaken : State := advanceCounter (s.withRe { s.re with status := s.re.status.settle })

/-- Then the view takes the values. -/
def statusViewed : State := evStatus r.statusValues r.holdDriven (some (s.mc.counter + 1)) (statusTaken s)

/-- Then the causes are judged. -/
def statusJudged : State := ctStatus (some (s.mc.counter + 1)) s.ev.alarm (statusViewed r s)

/-- Then a Refill acts. -/
def statusRefilled : State := if r.statusValues.refill then refill (statusJudged r s) else statusJudged r s

/-- Then the module is evaluated. -/
def statusPowered : State := mpcStatus r.statusValues.restore (statusRefilled r s)

theorem commitStatus_eq :
    commitStatus r s = cuStatus r.statusValues.hold (noticesCarried r (statusPowered r s)) := rfl

theorem statusViewed_frame : (statusViewed r s).ct = s.ct ∧ (statusViewed r s).mpc = s.mpc ∧ (statusViewed r s).da = s.da
    ∧ (statusViewed r s).cu = s.cu ∧ (statusViewed r s).mc.state = s.mc.state
    ∧ (statusViewed r s).settings = s.settings := by
  refine ⟨?_, ?_, ?_, ?_, ?_, settings_congr _ _ ?_ ?_⟩ <;> simp [statusViewed, statusTaken]

theorem statusJudged_frame : (statusJudged r s).mpc = s.mpc ∧ (statusJudged r s).da = s.da
    ∧ (statusJudged r s).cu = s.cu ∧ (statusJudged r s).ev = (statusViewed r s).ev := by
  obtain ⟨-, hmpc, hda, hcu, -⟩ := statusViewed_frame r s
  simp [statusJudged, hmpc, hda, hcu]

theorem statusRefilled_frame : (statusRefilled r s).mpc = s.mpc ∧ (statusRefilled r s).cu = s.cu
    ∧ (statusRefilled r s).ev = (statusViewed r s).ev ∧ (statusRefilled r s).ct = (statusJudged r s).ct := by
  obtain ⟨hmpc, -, hcu, hev⟩ := statusJudged_frame r s
  simp only [statusRefilled]
  split <;> simp [hmpc, hcu, hev]

/-- The parts of the state that the last stages leave as they find them. -/
theorem commitStatus_parts : (commitStatus r s).ev = (statusViewed r s).ev
    ∧ (commitStatus r s).ct = (statusJudged r s).ct ∧ (commitStatus r s).mpc = (statusPowered r s).mpc
    ∧ (commitStatus r s).da = (statusPowered r s).da ∧ (commitStatus r s).re = (statusPowered r s).re := by
  obtain ⟨-, -, hev, hct⟩ := statusRefilled_frame r s
  rw [commitStatus_eq]
  simp [statusPowered, hev, hct]

theorem commitStatus_balance : (r.statusValues.refill = true → (commitStatus r s).da.spent = 0
      ∧ (commitStatus r s).da.exhausted = false)
    ∧ (r.statusValues.refill = false → (commitStatus r s).da.spent = s.da.spent
      ∧ (commitStatus r s).da.exhausted = s.da.exhausted) := by
  obtain ⟨-, -, -, hda, -⟩ := commitStatus_parts r s
  obtain ⟨-, jda, -⟩ := statusJudged_frame r s
  rw [hda, statusPowered, (mpcStatus_balance _ _).1, (mpcStatus_balance _ _).2]
  refine ⟨fun h => ?_, fun h => ?_⟩
  · rw [statusRefilled, if_pos h]
    exact refill_balance _
  · rw [statusRefilled, if_neg (by simp [h]), jda]
    exact ⟨rfl, rfl⟩

theorem commitStatus_restores (hr : r.statusValues.restore = true) (hc : s.mpc.state = .cut) :
    (commitStatus r s).mpc.state ≠ .cut ∧ (commitStatus r s).mpc.feed = true ∧ (commitStatus r s).mpc.loud = 0 := by
  obtain ⟨-, -, hmpc, -⟩ := commitStatus_parts r s
  rw [hmpc, statusPowered, hr]
  exact mpcStatus_restores _ (by rw [(statusRefilled_frame r s).1]; exact hc)

theorem commitStatus_cu : (commitStatus r s).cu
    = if s.cu.state = .running ∧ holdHas r.statusValues.hold s.cu.level ≠ s.cu.reference
      then { s.cu with disturbed := true, reference := holdHas r.statusValues.hold s.cu.level } else s.cu := by
  have powered : (noticesCarried r (statusPowered r s)).cu = s.cu := by
    simp [statusPowered, (statusRefilled_frame r s).2.1]
  rw [commitStatus_eq, cuStatus, powered]
  split
  · rfl
  · exact powered

/-- What the stages after the view's may raise. -/
theorem statusPowered_raisesOnly : raisesOnly (statusViewed r s) (statusPowered r s) := by
  have judged : raisesOnly (statusViewed r s) (statusJudged r s) := ctStatus_raisesOnly _ _ _
  have refilled : raisesOnly (statusJudged r s) (statusRefilled r s) :=
    iteInduction (motive := raisesOnly (statusJudged r s)) (fun _ => refill_raisesOnly _) fun _ => raisesOnly_refl _
  exact raisesOnly_trans (raisesOnly_trans judged refilled) (mpcStatus_raisesOnly _ _)

theorem commitStatus_notices : (commitStatus r s).pl.refill = (s.pl.refill && !r.refillDriven)
    ∧ (commitStatus r s).pl.restore = (s.pl.restore && !r.restoreDriven) := by
  obtain ⟨w, -, -, -, -, -, -, vf, vs, -⟩ := evStatus_raisesOnly (statusTaken s) r.statusValues r.holdDriven
    (some (s.mc.counter + 1))
  obtain ⟨-, -, -, -, -, -, pf, ps, -⟩ := statusPowered_raisesOnly r s
  rw [commitStatus_eq, (cuStatus_frame _ _).2.2.2.2.2.2.2.2.1]
  refine ⟨congrArg (· && !r.refillDriven) ?_, congrArg (· && !r.restoreDriven) ?_⟩
  · exact pf.trans (vf.trans (by simp [statusTaken]))
  · exact ps.trans (vs.trans (by simp [statusTaken]))

/-- A slot other than the alarm slot after a Status commit (R74, R76). -/
theorem commitStatus_slot {i : Nat} (hi : i ≠ 6) : (commitStatus r s).slot i
    = ((s.slot i).accepted (some (s.mc.counter + 1)) (s.sourceActive i)).curtailedAt
      (s.settings.floorOf (commitStatus r s).ev.grade) := by
  obtain ⟨hct, -, -, -, -, hset⟩ := statusViewed_frame r s
  obtain ⟨hev, hslots, -⟩ := commitStatus_parts r s
  have source : (statusViewed r s).sourceActive i = s.sourceActive i := sourceActive_congr hi hset (by rw [hct])
  have viewed : (statusViewed r s).slot i = s.slot i := by rw [State.slot, hct, State.slot]
  have judged : (commitStatus r s).slot i = (statusJudged r s).slot i := by rw [State.slot, hslots, State.slot]
  rw [judged, hev, statusJudged, ctStatus_slot _ _ _ hi, source, viewed, State.austerity, hset]

end StatusCommit

/-! ### The wants after a Status commit at a Member -/

section StatusWants

variable {r : RoundRecord} {s : State}

/-- The Status want that a commit at a Member leaves in Closing: settled, and raised without the mark (R31, R33). -/
theorem commitStatus_want (hl : s.lif.state ≠ .round) : (commitStatus r s).re.status.renewed = false
    ∧ (s.re.status.held = true → s.re.status.renewed = true → (commitStatus r s).re.status.held = true) := by
  obtain ⟨w, vl, -, vre, -, vh, vn, -⟩ := evStatus_raisesOnly (statusTaken s) r.statusValues r.holdDriven
    (some (s.mc.counter + 1))
  obtain ⟨-, -, -, -, ph, pn, -⟩ := statusPowered_raisesOnly r s
  have outside : (statusTaken s).lif.state ≠ .round := by simpa [statusTaken] using hl
  have viewed : (statusViewed r s).lif.state ≠ .round := by
    rw [statusViewed, vl]
    exact outside
  obtain ⟨-, -, -, -, hre⟩ := commitStatus_parts r s
  rw [hre]
  refine ⟨(pn viewed).trans ((vn outside).trans ?_), fun h1 h2 => ph (vh ?_)⟩
  · simp [statusTaken, Want.settle]
  · simp [statusTaken, Want.settle, h1, h2]

theorem commitStatus_curtails (hm : s.mc.state = .member)
    (h : ∃ c ∈ s.ct.slots, (c.offered = true ∨ c.holding = true)
      ∧ c.level ≤ s.settings.floorOf (commitStatus r s).ev.grade) :
    (commitStatus r s).eventSet .causeCurtailed = true ∧ (commitStatus r s).re.status.held = true := by
  obtain ⟨hct, -, -, -, hst, hset⟩ := statusViewed_frame r s
  obtain ⟨hev, -, -, -, hre⟩ := commitStatus_parts r s
  obtain ⟨event, held⟩ := ctStatus_curtails (s := statusViewed r s) (hst.trans hm) (some (s.mc.counter + 1)) s.ev.alarm
    (by simpa only [State.austerity, hset, hct, hev] using h)
  have refilled : raisesOnly (statusJudged r s) (statusRefilled r s) :=
    iteInduction (motive := raisesOnly (statusJudged r s)) (fun _ => refill_raisesOnly _) fun _ => raisesOnly_refl _
  obtain ⟨-, -, -, -, ph, -, -, -, pe⟩ := raisesOnly_trans refilled (mpcStatus_raisesOnly r.statusValues.restore _)
  refine ⟨?_, by rw [hre]; exact ph held⟩
  rw [State.eventSet, commitStatus_eq, (cuStatus_frame _ _).2.2.2.2.2.2.2.2.1]
  exact pe _ event

/-- A commit that finds no cause at work, carries no notice and keeps the module state raises no want. -/
theorem commitStatus_quiet (hq : ∀ c ∈ s.ct.slots, c.state = .disabled ∨ c.state = .idle)
    (ho : ∀ c ∈ s.ct.slots, c.offered = false) (h6 : (s.slot 6).state = .disabled)
    (hf : r.statusValues.refill = false) (hs : r.statusValues.restore = false)
    (hk : (commitStatus r s).mpc.state = s.mpc.state) :
    (commitStatus r s).re.status.held = (s.re.status.held && s.re.status.renewed) := by
  obtain ⟨hct, -⟩ := statusViewed_frame r s
  obtain ⟨-, -, hmpc, -, hre⟩ := commitStatus_parts r s
  have refilled : statusRefilled r s = statusJudged r s := if_neg (by simp [hf])
  have powered : statusPowered r s = evaluateNeed (statusJudged r s) := by
    rw [statusPowered, refilled, hs]
    rfl
  have still : (evaluateNeed (statusJudged r s)).mpc.state = (statusJudged r s).mpc.state := by
    rw [← powered, ← hmpc, hk, (statusJudged_frame r s).1]
  have judged : (statusJudged r s).re = (statusViewed r s).re :=
    ctStatus_quiet _ _ (by rw [hct]; exact hq) (by rw [hct]; exact ho) (by rw [State.slot, hct]; exact h6)
  rw [hre, powered, evaluateNeed_quiet _ still, judged, statusViewed, evStatus_status]
  simp [statusTaken, Want.settle]

end StatusWants

end Sys2Proof.Machine

namespace Sys2Proof.Machine

/-! ## The commits of the other types at a Member (R33, R34, R45, R46, R95, R101, R174, R175) -/

section OtherCommits

variable {r : RoundRecord} {s : State}

/-- A committed Rest round: the view, the Rest want and the notices (R95, R101, R103). -/
theorem commitRest_spec (r : RoundRecord) (s : State) : (commitRest r s).ev.grade = s.ev.grade
    ∧ (commitRest r s).ev.table.map (·.level) = levels.filter (holdHas (BitVec.ofNat 7 (r.result .hold)))
    ∧ (commitRest r s).ev.net = netAfterRest (BitVec.ofNat 7 (r.result .hold) != 0 || r.result .objection != 0)
    ∧ (commitRest r s).ct = s.ct ∧ (commitRest r s).cu = s.cu
    ∧ (commitRest r s).pl.refill = s.pl.refill ∧ (commitRest r s).pl.restore = s.pl.restore
    ∧ (commitRest r s).re.join = s.re.join ∧ (commitRest r s).re.census = s.re.census
    ∧ (commitRest r s).re.rest = if s.ev.net = .settling ∧ (commitRest r s).ev.net = .awake then .clear
      else s.re.rest.settle := by
  generalize ha : advanceCounter (s.withRe { s.re with rest := s.re.rest.settle }) = a
  have taken : a.ev = s.ev ∧ a.ct = s.ct ∧ a.cu = s.cu ∧ a.pl = s.pl ∧ a.re = { s.re with rest := s.re.rest.settle } := by
    subst ha
    exact ⟨rfl, rfl, rfl, rfl, rfl⟩
  obtain ⟨aev, act, acu, apl, are⟩ := taken
  have committed : commitRest r s = evaluateNeed (evRest (BitVec.ofNat 7 (r.result .hold)) r.holdDriven
    (r.result .objection != 0) a) := ha ▸ rfl
  obtain ⟨grade, net, table⟩ := evRest_ev a (BitVec.ofNat 7 (r.result .hold)) r.holdDriven (r.result .objection != 0)
  obtain ⟨-, -, hre, -, -, -, hf, hs, -⟩ := raisesOnly_trans (evRest_raisesOnly a (BitVec.ofNat 7 (r.result .hold))
    r.holdDriven (r.result .objection != 0)) (evaluateNeed_raisesOnly _)
  rw [← committed] at hre hf hs
  have evaluated : (commitRest r s).ev = (evRest (BitVec.ofNat 7 (r.result .hold)) r.holdDriven
      (r.result .objection != 0) a).ev := by rw [committed]; simp
  rw [evaluated, net, grade, aev]
  refine ⟨rfl, table, rfl, by rw [committed]; simp [act], by rw [committed]; simp [acu], hf.trans (by rw [← apl]; rfl),
    hs.trans (by rw [← apl]; rfl), ?_, ?_, ?_⟩
  · rw [hre]
    simp [are]
  · rw [hre]
    simp [are]
  · rw [hre]
    simp [are, aev]

/-- A settled want, or a withdrawn one (R33, R103). -/
theorem settled_or_withdrawn (w : Want) (a b : NetState) : (if a = .settling ∧ b = .awake then .clear else w.settle)
    = (⟨w.held && w.renewed && !(a == .settling && b == .awake), false⟩ : Want) := by
  by_cases h : a = .settling ∧ b = .awake
  · simp [h, Want.clear]
  · rw [if_neg h]
    rw [not_and] at h
    have apart : (a == .settling && b == .awake) = false := by simpa [-not_and] using h
    simp [apart, Want.settle]

/-- A committed Census round touches the Census want alone of the RE (R33, R174, R175). -/
theorem commitCensus_censusOnly (r : RoundRecord) (s : State) : censusOnly s (commitCensus r s) := by
  refine censusOnly_trans ?_ (cuCensus_censusOnly ..)
  exact iteInduction (motive := censusOnly s) (fun _ => ⟨rfl, rfl, rfl⟩) fun _ => ⟨rfl, rfl, rfl⟩

theorem raiseCensus_held (hm : s.mc.state = .member) : (raiseCensus s).re.census.held = true := by
  simp [raiseCensus, hm, Want.raise]

/-- A census that is not Waiting has nothing to recheck (R172). -/
theorem censusRecheck_of_not_waiting (h : s.cu.state ≠ .waiting) : censusRecheck s = s := if_neg fun hw => h hw.1

/-- The winning requester of a committed Census round with its census Running (R175). -/
theorem commitCensus_winner (hm : s.mc.state = .member) (hw : r.winner = true) (hr : s.cu.state = .running)
    (hc : s.cu.closeOwed = false) :
    (BitVec.ofNat 6 (r.result .candidate) ≠ 0 → (commitCensus r s).re.census.held = true)
    ∧ (BitVec.ofNat 6 (r.result .candidate) = 0 → (commitCensus r s).cu.state = .complete
      ∧ (commitCensus r s).re.census = ⟨false, false⟩ ∧ (commitCensus r s).eventSet .censusDone = true) := by
  simp only [commitCensus, hw, if_true, cuCensus]
  generalize (BitVec.ofNat 6 (r.result .candidate)) = c
  generalize (Fin.ofNat 8 (r.result .level)) = l
  generalize hb : State.withCu _ _ = b
  have at_work : b.cu.state = .running ∧ b.cu.closeOwed = false ∧ b.mc.state = .member := by
    subst hb
    exact ⟨hr, hc, hm⟩
  obtain ⟨bs, bc, bm⟩ := at_work
  refine ⟨fun hcand => ?_, fun hcand => ?_⟩
  · have step : (censusStep l c b).re.census.held = true ∧ (censusStep l c b).cu.state ≠ .waiting := by
      simp only [censusStep, bc, bs, hcand, Bool.false_eq_true, if_true, if_false]
      (repeat' split) <;> simp [raiseCensus_held, bm]
    rw [censusRecheck_of_not_waiting step.2]
    exact step.1
  · have step : censusStep l c b = raiseEvent .censusDone (withdrawCensus (b.withCu { b.cu with state := .complete })) := by
      simp only [censusStep, bc, bs, hcand, Bool.false_eq_true, if_true, if_false]
    rw [step, censusRecheck_of_not_waiting (by simp)]
    exact ⟨by simp, rfl, (eventSet_raiseEvent ..).trans (by simp)⟩

/-- A committed Join round at a Member in Closing: the counter, the disagreement flag and the want of its change (R45, R46). -/
theorem joinAtMember_spec (hm : s.mc.state = .member) (hl : s.lif.state ≠ .round) (count max min : Half) :
    (joinAtMember count max min s).mc.disagreement = (max != min)
    ∧ (joinAtMember count max min s).mc.counter = count + 1
    ∧ (joinAtMember count max min s).re = { s.re with
      status := ⟨s.re.status.held || (max != min) != s.mc.disagreement, s.re.status.renewed⟩ } := by
  by_cases hd : s.mc.disagreement = (max != min)
  · have same : joinAtMember count max min s = s.withMc { s.mc with counter := count + 1 } := if_pos hd
    rw [same, ← hd]
    simp
  · have changed : joinAtMember count max min s
        = raiseStatus (s.withMc { s.mc with counter := count + 1, disagreement := max != min }) := if_neg hd
    have differs : ((max != min) != s.mc.disagreement) = true := by simpa using Ne.symm hd
    rw [changed, raiseStatus_outside (by exact hm) (by exact hl), differs]
    simp

/-- What a commit of any type does at a Member (R34, R37, R38). -/
theorem commitRound_member {y : RoundType} (hm : s.mc.state = .member) (hrole : r.role = .member)
    (hy : r.rtype = some y) (hl : s.lif.state ≠ .round) : (commitRound r s).re.voids = 0
    ∧ (commitRound r s).mc.state = .member ∧ (commitRound r s).mc.counter
      = (if y = .join then BitVec.ofNat 16 (r.result .count) else s.mc.counter) + 1 := by
  simp only [commitRound, hy]
  generalize hb : s.withRe { s.re with voids := 0 } = b
  have base : b.re.voids = 0 ∧ b.mc = s.mc ∧ b.lif = s.lif := by
    subst hb
    exact ⟨rfl, rfl, rfl⟩
  obtain ⟨bv, bm, bl⟩ := base
  cases y with
  | status =>
    obtain ⟨h1, h2, -⟩ := commitStatus_wantsOnly b r
    refine ⟨?_, by simp [bm, hm], ?_⟩
    · rw [h2]
      simp [bv]
    · rw [h1]
      simp [advanceCounter, bm]
  | rest =>
    obtain ⟨h1, h2, -⟩ := commitRest_wantsOnly b r
    refine ⟨?_, by simp [bm, hm], ?_⟩
    · rw [h2]
      simp [bv]
    · rw [h1]
      simp [advanceCounter, bm]
  | census =>
    simp only [commitCensus]
    rw [(cuCensus_censusOnly ..).1]
    split <;> simp [advanceCounter, bv, bm, hm]
  | join =>
    obtain ⟨-, h2, h3⟩ := joinAtMember_spec (s := b) (bm ▸ hm) (bl ▸ hl) (BitVec.ofNat 16 (r.result .count))
      (BitVec.ofNat 16 (r.result .digestMax)) (BitVec.ofNat 16 (r.result .digestMin))
    simp only [commitJoin, hrole, if_true, h2, h3]
    exact ⟨bv, by simp [bm, hm], trivial⟩

end OtherCommits

/-! ## ROUND that commits (R12, R17, R37) -/

/-- A round that is not closed yet, from the state in which it is. -/
theorem closeRound_undone {s : State} {q : RoundRecord} (hs : s.lif.state = .closing) (hr : s.re.record = some q) :
    s = { closeRound s with
      lif := { (closeRound s).lif with state := .closing }, re := { (closeRound s).re with record := some q } } := by
  rw [closeRound_closing hs, ← hs, ← hr]
  rfl

theorem netAfterRest_eq (h : HoldMap) (n : Nat) :
    netAfterRest (h != 0 || n != 0) = if h = 0 ∧ n = 0 then .rest else .awake := by
  by_cases h0 : h = 0 <;> by_cases n0 : n = 0 <;> simp [netAfterRest, h0, n0]

/-- A committed Status round at the view, the notices and the round counter (R33, R34, R37, R86 to R91). -/
theorem commitStatus_view (r : RoundRecord) (s : State) : (commitStatus r s).ev.grade = r.statusValues.pressure
    ∧ (commitStatus r s).ev.alarm = r.statusValues.alarm
    ∧ (commitStatus r s).ev.table.map (·.level) = levels.filter (holdHas r.statusValues.hold)
    ∧ (∀ x ∈ (commitStatus r s).ev.table, x.own = holdHas r.holdDriven x.level)
    ∧ (commitStatus r s).mc.counter = s.mc.counter + 1
    ∧ (commitStatus r s).re.join = s.re.join ∧ (commitStatus r s).re.census = s.re.census := by
  obtain ⟨hev, -⟩ := commitStatus_parts r s
  obtain ⟨h1, h2, h3, h4⟩ := evStatus_ev (statusTaken s) r.statusValues r.holdDriven (some (s.mc.counter + 1))
  obtain ⟨hmc, hre, -⟩ := commitStatus_wantsOnly s r
  rw [hev]
  refine ⟨h1, h2, h3, h4, ?_, ?_, ?_⟩
  · rw [hmc]
    simp [advanceCounter]
  · rw [hre]
    simp
  · rw [hre]
    simp

/-- The causes other than the alarm slot's after a committed Status round (R74, R76). -/
theorem commitStatus_causes (r : RoundRecord) (s : State) {i : Nat} (hi : i ≠ 6) :
    ((s.slot i).offered = true → s.settings.floorOf (commitStatus r s).ev.grade < (s.slot i).level →
      (commitStatus r s).slot i = { s.slot i with
        offered := false, merged := false, expiryHeld := false, opened := some (commitStatus r s).mc.counter
        state := if (s.slot i).mode = .level ∧ s.sourceActive i = true then .held else .lingering
        countdown := if (s.slot i).mode = .level ∧ s.sourceActive i = true then 0 else 4 * (s.slot i).linger.toNat })
    ∧ ((s.slot i).offered = true ∨ (s.slot i).holding = true →
      (s.slot i).level ≤ s.settings.floorOf (commitStatus r s).ev.grade → (commitStatus r s).slot i = (s.slot i).toIdle)
    ∧ ((s.slot i).offered = false → (s.slot i).holding = false
      ∨ s.settings.floorOf (commitStatus r s).ev.grade < (s.slot i).level → (commitStatus r s).slot i = s.slot i) := by
  obtain ⟨-, -, -, -, counter, -⟩ := commitStatus_view r s
  refine ⟨fun h hl => ?_, fun h hl => ?_, fun h hl => ?_⟩
  · rw [commitStatus_slot r s hi, commit_accepts h hl, counter]
  · rw [commitStatus_slot r s hi, commit_curtails h hl]
  · rw [commitStatus_slot r s hi, commit_keeps h hl]

/-- Settles O23. -/
theorem roundCommitsAtTheMember : Obligations.RoundCommitsAtTheMember := by
  intro s r y n hr hm hs hp hf hrec hrole hy hc hb hmis hinv hab
  obtain ⟨l, run⟩ := runBit_void (x := false) (d := false) hs hp (by simp) hrec hrole hc hb hab (by simp [hf, hmis, hinv])
    (.inr rfl)
  generalize hq : r.voidSampled false false = q at run
  generalize hbase : atOutcome q l s = b at run
  rw [if_neg Bool.false_ne_true] at run
  have qrole : q.role = .member := hq ▸ hrole
  have qy : q.rtype = some y := hq ▸ hy
  have result : q.result = r.result := hq ▸ rfl
  have bm : b.mc.state = .member := hbase ▸ hm
  have bl : b.lif.state = .closing := hbase ▸ rfl
  obtain ⟨voids, member, counter⟩ := commitRound_member (s := b) bm qrole qy (by simp [bl])
  have closing : (commitRound q b).lif.state = .closing := by rw [commitRound_lif b qrole]; exact bl
  have record : (commitRound q b).re.record = some q := by rw [commitRound_record b qrole, ← hbase]; rfl
  have ends := fun c => exec_round_one_bit (x := false) n c hr hs (by omega)
  rw [run] at ends
  have joined : y = .join → commitRound q b = joinAtMember (BitVec.ofNat 16 (q.result .count))
      (BitVec.ofNat 16 (q.result .digestMax)) (BitVec.ofNat 16 (q.result .digestMin))
      (b.withRe { b.re with voids := 0 }) := fun hj => by
    subst hj
    simp only [commitRound, qy, commitJoin, qrole, if_true]
  have atJoin := joinAtMember_spec (s := b.withRe { b.re with voids := 0 }) bm (by simp [bl])
    (BitVec.ofNat 16 (q.result .count)) (BitVec.ofNat 16 (q.result .digestMax)) (BitVec.ofNat 16 (q.result .digestMin))
  have joinFrame := joinAtMember_frame (b.withRe { b.re with voids := 0 }) (BitVec.ofNat 16 (q.result .count))
    (BitVec.ofNat 16 (q.result .digestMax)) (BitVec.ofNat 16 (q.result .digestMin))
  refine ⟨closeRound (roundPins (commitRound q b)), ends true, ?_⟩
  have stands := ends false
  rw [if_neg Bool.false_ne_true] at stands
  have undone := stands.trans
    (congrArg Host.Outcome.next (closeRound_undone (s := roundPins (commitRound q b)) closing record))
  rw [closeRound_closing (s := roundPins (commitRound q b)) closing] at undone ⊢
  refine ⟨rfl, ?_, ?_, rfl, voids, member, ?_, ?_, ?_, fun h => ?_, fun h => ?_, fun h => ?_, fun h => ?_,
    fun h hw hcs hco => ?_, q, undone⟩
  · rw [← hbase] at closing ⊢
    simp [roundPins, commitRound_lif _ qrole, atOutcome]
  · simp [roundPins, commitRound_lif _ qrole, ← hbase, atOutcome, Lif.leave]
  · simp [roundPins, ← hbase, atOutcome]
  · have pins : b.pins = s.pins := hbase ▸ rfl
    simp [roundPins, closing, pins]
  · rw [← result, ← show b.mc.counter = s.mc.counter by rw [← hbase]; rfl]
    exact counter
  · subst h
    have committed : commitRound q b = commitStatus q (b.withRe { b.re with voids := 0 }) := by
      simp only [commitRound, qy]
    generalize hb0 : b.withRe { b.re with voids := 0 } = b0 at committed
    have member : b0.mc.state = .member := hb0 ▸ bm
    have outside : b0.lif.state ≠ .round := by rw [← hb0]; simp [bl]
    obtain ⟨grade, alarm, table, own, -, join, census⟩ := commitStatus_view q b0
    obtain ⟨refill, restore⟩ := commitStatus_notices q b0
    obtain ⟨unmarked, kept⟩ := commitStatus_want (r := q) outside
    obtain ⟨refilled, unrefilled⟩ := commitStatus_balance q b0
    have curtailed := commitStatus_curtails (r := q) member
    have quiet := commitStatus_quiet (r := q) (s := b0)
    have causes := fun i => commitStatus_causes q b0 (i := i)
    have restored := commitStatus_restores q b0
    have cu := commitStatus_cu q b0
    have judged : ∀ c ∈ (commitStatus q b0).ct.slots, c.offered = false := by
      rw [(commitStatus_parts q b0).2.1]
      exact ctStatus_none_offered _ _
    rw [committed]
    subst hq hbase hb0
    refine ⟨congrArg Fin.val grade, alarm, table, own, refill, restore, judged, causes, curtailed, unmarked, kept,
      fun hi ho h6 hn hk => quiet hi ho h6 ?_ ?_ hk, join, census, refilled, unrefilled, restored, cu⟩
    · simp [RoundRecord.statusValues, result, hn]
    · simp [RoundRecord.statusValues, result, hn]
  · subst h
    have committed : commitRound q b = commitRest q (b.withRe { b.re with voids := 0 }) := by
      simp only [commitRound, qy]
    obtain ⟨grade, table, net, ct, cu, refill, restore, join, census, rest⟩ :=
      commitRest_spec q (b.withRe { b.re with voids := 0 })
    rw [netAfterRest_eq] at net
    rw [committed]
    subst hq hbase
    refine ⟨grade, table, net, ct, cu, ⟨refill, restore, by simp [roundPins, atOutcome]⟩, join, census, rest.trans (settled_or_withdrawn ..)⟩
  · rcases h with rfl | rfl
    · have committed : commitRound q b = commitCensus q (b.withRe { b.re with voids := 0 }) := by
        simp only [commitRound, qy]
      obtain ⟨hre, refill, restore⟩ := commitCensus_censusOnly q (b.withRe { b.re with voids := 0 })
      obtain ⟨-, ct, ev, mpc, mu, da, -, -, -, store, -⟩ := commitCensus_frame (b.withRe { b.re with voids := 0 }) q
      have join := congrArg Re.join hre
      have rest := congrArg Re.rest hre
      rw [committed]
      subst hq hbase
      exact ⟨ev, ct, mpc, mu, da, ⟨refill, restore, store⟩, join, rest⟩
    · rw [joined rfl]
      obtain ⟨-, ct, ev, mpc, mu, da, -, pl, -⟩ := joinFrame
      obtain ⟨-, -, hre⟩ := atJoin
      have join := congrArg Re.join hre
      have rest := congrArg Re.rest hre
      have refill := congrArg Pl.refill pl
      have restore := congrArg Pl.restore pl
      have store := congrArg Pl.store pl
      subst hq hbase
      exact ⟨ev, ct, mpc, mu, da, ⟨refill, restore, store⟩, join, rest⟩
  · rw [joined h]
    obtain ⟨-, -, -, -, -, -, cu, -⟩ := joinFrame
    obtain ⟨disagreement, -, hre⟩ := atJoin
    have flag : (BitVec.ofNat 16 (q.result .digestMax) != BitVec.ofNat 16 (q.result .digestMin))
        = decide (BitVec.ofNat 16 (r.result .digestMax) ≠ BitVec.ofNat 16 (r.result .digestMin)) := by
      rw [result, Bool.eq_iff_iff]
      simp
    have census := congrArg Re.census hre
    have status := congrArg Re.status hre
    rw [← disagreement] at status
    subst hbase
    exact ⟨cu, disagreement.trans flag, census, status⟩
  · subst h
    have committed : commitRound q b = commitCensus q (b.withRe { b.re with voids := 0 }) := by
      simp only [commitRound, qy]
    have won := commitCensus_winner (r := q) (s := b.withRe { b.re with voids := 0 }) bm
    rw [committed]
    subst hq hbase
    exact won hw hcs hco

end Sys2Proof.Machine

namespace Sys2Proof.Machine

/-! ## The Status want by membership state (R31, R55) -/

/-- Settles O26: each membership state falls under one of the three laws of the want. -/
theorem statusWantByMembership : Obligations.StatusWantByMembership := by
  intro s
  refine ⟨fun hm => raiseStatus_member s hm, fun hm => raiseStatus_local s ?_, fun hm => raiseStatus_other s hm.symm⟩
  rcases hm with hm | hm <;> rw [State.isLocal, hm] <;> rfl

end Sys2Proof.Machine

namespace Sys2Proof.Machine

/-! ## What stands beside the round record (R17)

The operations of the causes, the module, the converter and the timers raise wants and no more of the RE, so a round
that is followed stands through them. -/

section RecordKept

variable (s : State)

@[simp] theorem raiseRest_record : (raiseRest s).re.record = s.re.record := by
  simp only [raiseRest]
  split <;> simp

@[simp] theorem raiseJoin_record : (raiseJoin s).re.record = s.re.record := by
  simp only [raiseJoin]
  split <;> simp

@[simp] theorem recomputeGrades_record : (recomputeGrades s).re.record = s.re.record :=
  wantsOnly_record (recomputeGrades_wantsOnly s)

@[simp] theorem sampleEntry_record (x : BitVec 12) : (sampleEntry x s).re.record = s.re.record :=
  wantsOnly_record (sampleEntry_wantsOnly x s)

@[simp] theorem quietCharge_record (q : Nat) : (quietCharge q s).re.record = s.re.record :=
  wantsOnly_record (quietCharge_wantsOnly q s)

@[simp] theorem setClockFault_record (b : Bool) : (setClockFault b s).re.record = s.re.record :=
  wantsOnly_record (setClockFault_wantsOnly b s)

@[simp] theorem clockFails_record : (clockFails s).re.record = s.re.record :=
  wantsOnly_record (clockFails_wantsOnly s)

@[simp] theorem railOff_record : (railOff s).re.record = s.re.record := wantsOnly_record (railOff_wantsOnly s)

@[simp] theorem evaluateNeed_record : (evaluateNeed s).re.record = s.re.record :=
  wantsOnly_record (evaluateNeed_wantsOnly s)

@[simp] theorem leaveCut_record : (leaveCut s).re.record = s.re.record := wantsOnly_record (leaveCut_wantsOnly s)

@[simp] theorem setLoud_record (n : Nat) : (setLoud n s).re.record = s.re.record :=
  wantsOnly_record (setLoud_wantsOnly n s)

@[simp] theorem loudOutcome_record : (loudOutcome s).re.record = s.re.record :=
  wantsOnly_record (loudOutcome_wantsOnly s)

@[simp] theorem trigger_record (i : Nat) : (trigger i s).re.record = s.re.record :=
  wantsOnly_record (trigger_wantsOnly i s)

@[simp] theorem reportCause_record (c : Cause) : (reportCause c s).re.record = s.re.record :=
  wantsOnly_record (reportCause_wantsOnly c s)

@[simp] theorem localStatus_record : (localStatus s).re.record = s.re.record :=
  (wantsOnly_record (localStatus_wantsOnly s)).trans rfl

@[simp] theorem localRest_record : (localRest s).re.record = s.re.record := wantsOnly_record (localRest_wantsOnly s)

/-! ### The converter and the module's timers -/

@[simp] theorem request_record (u : User) : (request u s).re.record = s.re.record := by
  simp only [request, missedSample]
  (repeat' split) <;> simp

@[simp] theorem clockConfirmed_record : (clockConfirmed s).re.record = s.re.record := by simp [clockConfirmed]

@[simp] theorem batteryTimerRunsOut_record : (batteryTimerRunsOut s).re.record = s.re.record := by
  simp only [batteryTimerRunsOut]
  split <;> simp

@[simp] theorem quietIntervalRunsOut_record : (quietIntervalRunsOut s).re.record = s.re.record := by
  simp only [quietIntervalRunsOut]
  split <;> simp [requestQuiet]

@[simp] theorem quietDelayRunsOut_record : (quietDelayRunsOut s).re.record = s.re.record := by
  simp only [quietDelayRunsOut]
  split <;> simp [requestQuiet]

@[simp] theorem sampleBoundary_record : (sampleBoundary s).re.record = s.re.record := by
  simp only [sampleBoundary]
  split <;> simp

theorem batteryOutcome_record (n : Nat) : (batteryOutcome n s).re.record = s.re.record := by
  simp only [batteryOutcome]
  (repeat' split) <;> simp

theorem quietCheckOutcome_record (n : Nat) : (quietCheckOutcome n s).re.record = s.re.record := by
  simp only [quietCheckOutcome]
  split <;> simp [quietOutcome]

theorem deliver_record (u : User) (x : BitVec 12) : (deliver u x s).re.record = s.re.record := by
  cases u with
  | battery => exact batteryOutcome_record s _
  | quiet => exact quietCheckOutcome_record s _
  | drain => exact sampleEntry_record s x

@[simp] theorem conversionEnds_record (v : Int) : (conversionEnds v s).re.record = s.re.record := by
  simp only [conversionEnds]
  split <;> simp [deliver_record]

@[simp] theorem powerUpDone_record : (powerUpDone s).re.record = s.re.record := by
  simp [powerUpDone, raiseStatus_record]

@[simp] theorem parkDone_record : (parkDone s).re.record = s.re.record := by simp [parkDone, raiseStatus_record]

@[simp] theorem helloRunsOut_record : (helloRunsOut s).re.record = s.re.record := by
  simp only [helloRunsOut]
  split <;> simp

@[simp] theorem graceRunsOut_record : (graceRunsOut s).re.record = s.re.record := by
  simp only [graceRunsOut]
  split <;> simp

/-! ### The causes -/

theorem followSource_record (i : Nat) : (followSource i s).re.record = s.re.record := by
  simp only [followSource]
  split <;> simp

@[simp] theorem lingerRunsOut_record (i : Nat) : (lingerRunsOut i s).re.record = s.re.record := by
  simp only [lingerRunsOut]
  split <;> simp [raiseStatus_record]

@[simp] theorem wakeTimerRunsOut_record (n : Nat) : (wakeTimerRunsOut n s).re.record = s.re.record := by
  simp only [wakeTimerRunsOut]
  split <;> simp

@[simp] theorem filteredEdge_record (k : Nat) (b : Bool) : (filteredEdge k b s).re.record = s.re.record := by
  simp only [filteredEdge]
  (repeat' split) <;> simp [followSource_record]

@[simp] theorem sampleSense_record (k : Nat) : (sampleSense k s).re.record = s.re.record := by
  simp only [sampleSense]
  (repeat' split) <;> simp

theorem releaseSlot_record (i : Nat) : (releaseSlot i s).re.record = s.re.record := by
  simp only [releaseSlot]
  (repeat' split) <;> simp [raiseStatus_record]

/-! ### The membership controller's expiries and decisions -/

@[simp] theorem rejoinRunsOut_record : (rejoinRunsOut s).re.record = s.re.record := by
  simp only [rejoinRunsOut]
  split <;> simp

@[simp] theorem heartbeatRunsOut_record : (heartbeatRunsOut s).re.record = s.re.record := by
  simp only [heartbeatRunsOut]
  split <;> simp [raiseStatus_record]

@[simp] theorem settleRunsOut_record : (settleRunsOut s).re.record = s.re.record := by
  simp only [settleRunsOut]
  (repeat' split) <;> simp

@[simp] theorem takeDueDecisions_record : (takeDueDecisions s).re.record = s.re.record := by
  simp only [takeDueDecisions]
  (repeat' split) <;> simp

/-! ### The counts of a period -/

theorem periodCounts_record : ∀ f ∈ periodCounts, ∀ t : State, (f t).re.record = t.re.record := by
  simp only [periodCounts, List.forall_mem_cons, List.not_mem_nil, false_implies, implies_true, and_true]
  refine ⟨fun t => ?_, fun t => by simp, fun t => ?_, fun t => ?_, fun t => ?_, fun t => ?_⟩
  · simp only [countPhase]
    (repeat' split) <;> simp
  · simp only [countSettling]
    (repeat' split) <;> simp
  · simp only [countQuietDelay]
    (repeat' split) <;> simp
  · simp only [countGrace]
    (repeat' split) <;> simp
  · simp only [countHello]
    (repeat' split) <;> simp

@[simp] theorem countSlot_record (i : Nat) : (countSlot i s).re.record = s.re.record := by
  simp only [countSlot]
  (repeat' split) <;> simp

@[simp] theorem countWakeTimer_record (n : Nat) : (countWakeTimer n s).re.record = s.re.record := by
  simp only [countWakeTimer]
  (repeat' split) <;> simp

@[simp] theorem countRejoin_record : (countRejoin s).re.record = s.re.record := by
  simp only [countRejoin]
  (repeat' split) <;> simp

@[simp] theorem countHeartbeat_record : (countHeartbeat s).re.record = s.re.record := by
  simp only [countHeartbeat]
  (repeat' split) <;> simp

@[simp] theorem countSettle_record : (countSettle s).re.record = s.re.record := by
  simp only [countSettle]
  (repeat' split) <;> simp

@[simp] theorem countBattery_record : (countBattery s).re.record = s.re.record := by
  simp only [countBattery]
  (repeat' split) <;> simp

@[simp] theorem countQuietInterval_record : (countQuietInterval s).re.record = s.re.record := by
  simp only [countQuietInterval]
  (repeat' split) <;> simp

/-! ### The census unit and the entry to Joining -/

theorem exclusionRunsOut_record : (exclusionRunsOut s).re.record = s.re.record := by
  simp only [exclusionRunsOut]
  split
  · rw [(censusRecheck_censusOnly _).1]
    rfl
  · rfl

theorem holdOffRunsOut_record : (holdOffRunsOut s).re.record = s.re.record := by
  simp only [holdOffRunsOut]
  split
  · rw [(censusRecheck_censusOnly _).1]
    rfl
  · rfl

theorem censusBegin_record (l : Level) : (censusBegin l s).re.record = s.re.record := by
  simp only [censusBegin]
  split
  · rfl
  · rw [censusRun, (raiseCensus_censusOnly _).1]
    rfl

@[simp] theorem enterJoining_record : (enterJoining s).re.record = s.re.record := by
  simp only [enterJoining]
  split <;> simp

/-- A refused station follows no round (R17, R44). -/
theorem refuse_record (f : LineFault) (b : Bool) : (refuse f b s).re.record = none := by
  simp only [refuse]
  split <;> simp [setDisagreement_record]

end RecordKept

end Sys2Proof.Machine

namespace Sys2Proof.Machine

/-! ## The census and the role of the round (R17, R169)

The invariant in two parts: what it says of the CU, which the line cannot touch but through a report, and what it says
of the round record, which only the line and the RE move. -/

/-- The CU's part: the list in order, and no census at work outside Member (R169, R171, R180). -/
def State.cuOk (s : State) : Prop :=
  s.cu.listOk ∧ (s.mc.state ≠ .member → s.cu.state ≠ .waiting ∧ s.cu.state ≠ .running ∧ s.cu.closeOwed = false)

/-- The RE's part at one record: not abandoned, it is followed as a Member exactly by a Member (R17). -/
def State.roleFits (s : State) (r : RoundRecord) : Prop :=
  r.abandoned = false → (r.role = .member ↔ s.mc.state = .member)

theorem censusInv_iff (s : State) : s.censusInv
    ↔ s.cuOk ∧ ∀ r, s.re.record = some r → s.lif.state ≠ .closing → s.roleFits r := by
  simp only [State.censusInv, State.cuOk, State.roleFits, and_assoc]

section CensusInv

variable {s t : State} {r q : RoundRecord}

theorem State.censusInv.cuOk (h : s.censusInv) : s.cuOk := ((censusInv_iff s).1 h).1

theorem State.censusInv.fits (h : s.censusInv) (hr : s.re.record = some r) (hs : s.lif.state ≠ .closing) :
    s.roleFits r := ((censusInv_iff s).1 h).2 r hr hs

theorem cuOk_congr (hc : t.cu = s.cu) (hm : t.mc.state = s.mc.state) (h : s.cuOk) : t.cuOk := by
  simpa only [State.cuOk, hc, hm] using h

/-- The invariant speaks of the LIF state, the record, the membership state and the CU alone. -/
theorem censusInv_congr (h : s.censusInv) (hx : t.lif.state = s.lif.state ∧ t.re.record = s.re.record
    ∧ t.mc.state = s.mc.state ∧ t.cu = s.cu) : t.censusInv := by
  obtain ⟨hl, hr, hm, hc⟩ := hx
  simpa only [State.censusInv, hl, hr, hm, hc] using h

/-- In Closing the outcome is delivered, so that the record binds no more. -/
theorem censusInv_of_closing (h : s.cuOk) (hs : s.lif.state = .closing) : s.censusInv :=
  (censusInv_iff s).2 ⟨h, fun _ _ hn => absurd hs hn⟩

theorem censusInv_of_noRound (h : s.cuOk) (hr : s.re.record = none) : s.censusInv :=
  (censusInv_iff s).2 ⟨h, fun r hs => by simp [hr] at hs⟩

/-- The LIF may move wherever it does not leave Closing with the record standing. -/
theorem censusInv_withLif {x : Lif} (h : s.censusInv) (hx : x.state ≠ .closing → s.lif.state ≠ .closing) :
    (s.withLif x).censusInv := (censusInv_iff _).2 ⟨h.cuOk, fun _ hr hs => h.fits hr (hx hs)⟩

/-! ### The record along a round -/

/-- What the invariant reads of a record is that of another. -/
def RoundRecord.sameRole (q r : RoundRecord) : Prop := q.role = r.role ∧ q.abandoned = r.abandoned

theorem roleFits_of_sameRole (h : s.roleFits r) (hq : q.sameRole r) : s.roleFits q := by
  simpa only [State.roleFits, hq.1, hq.2] using h

theorem noteDriven_sameRole (r : RoundRecord) (s : State) : (r.noteDriven s).sameRole r := by
  simp only [RoundRecord.noteDriven]
  split <;> exact ⟨rfl, rfl⟩

theorem fieldDone_sameRole (r : RoundRecord) (f : Field) : (r.fieldDone f).sameRole r := by
  cases f with
  | hold =>
    simp only [RoundRecord.fieldDone]
    split <;> exact ⟨rfl, rfl⟩
  | _ => exact ⟨rfl, rfl⟩

theorem censusInv_setRecord (h : s.censusInv) (hr : s.re.record = some r) (hq : q.sameRole r) :
    (setRecord (some q) s).censusInv := by
  refine (censusInv_iff _).2 ⟨h.cuOk, fun p hp hs => ?_⟩
  obtain rfl : q = p := Option.some.inj hp
  exact roleFits_of_sameRole (s := setRecord (some q) s) (h.fits hr hs) hq

/-! ### The census at work -/

/-- A census that waits, runs or owes its close is a Member's. -/
theorem State.cuOk.member_of_active (h : s.cuOk)
    (ha : s.cu.state = .waiting ∨ s.cu.state = .running ∨ s.cu.closeOwed = true) : s.mc.state = .member := by
  by_contra hm
  obtain ⟨hw, hr, hc⟩ := h.2 hm
  simp [hw, hr, hc] at ha

theorem cuOk_withCu_member {c : Cu} (hm : s.mc.state = .member) (hl : c.listOk) : (s.withCu c).cuOk :=
  ⟨hl, fun hn => absurd hm hn⟩

theorem listOk_nil {c : Cu} (h : c.list = []) : c.listOk := by simp [Cu.listOk, h]

/-- A candidate that is not out of order is below every number listed (R175). -/
theorem outOfOrder_eq_false {c : Cu} {n : Station} (h : c.list.Pairwise fun a b => b < a)
    (ho : c.outOfOrder n = false) : ∀ a ∈ c.list, n < a := by
  intro a ha
  have hne : c.list ≠ [] := List.ne_nil_of_mem ha
  have below : n < c.list.getLast hne := by
    simpa [Cu.outOfOrder, List.getLast?_eq_some_getLast hne] using ho
  rw [← List.dropLast_append_getLast hne, List.mem_append, List.mem_singleton] at ha
  rw [← List.dropLast_append_getLast hne, List.pairwise_append] at h
  rcases ha with ha | rfl
  · exact BitVec.lt_trans below (h.2.2 a ha _ (List.mem_singleton_self _))
  · exact below

/-- A candidate in order is listed while the list has room (R175). -/
theorem listOk_append {c : Cu} {n : Station} (h : c.listOk) (hn : n ≠ 0) (ho : c.outOfOrder n = false)
    (hl : c.list.length < Config.listMax) : ({ c with list := c.list ++ [n] } : Cu).listOk := by
  obtain ⟨-, sorted, nonzero⟩ := h
  refine ⟨by simpa using hl, ?_, ?_⟩
  · exact List.pairwise_append.2 ⟨sorted, List.pairwise_singleton _ _, fun a ha b hb => by
      simpa [List.mem_singleton.1 hb] using outOfOrder_eq_false sorted ho a ha⟩
  · intro a ha
    rcases List.mem_append.1 ha with ha | ha
    · exact nonzero a ha
    · exact List.mem_singleton.1 ha ▸ hn

theorem raiseCensus_cuOk (h : s.cuOk) : (raiseCensus s).cuOk := cuOk_congr (by simp) (by simp) h

theorem censusRun_cuOk (hm : s.mc.state = .member) (h : s.cu.listOk) : (censusRun s).cuOk :=
  raiseCensus_cuOk (cuOk_withCu_member hm h)

theorem censusRecheck_cuOk (h : s.cuOk) : (censusRecheck s).cuOk :=
  iteInduction (fun hw => censusRun_cuOk (h.member_of_active (.inl hw.1)) h.1) fun _ => h

theorem censusStep_cuOk (l : Level) (n : Station) (h : s.cuOk) : (censusStep l n s).cuOk := by
  have signalled : ∀ (e : Event) (u : State), u.cuOk → (raiseEvent e u).cuOk := fun e u hu =>
    cuOk_congr (by simp) (by simp) hu
  refine iteInduction (fun hc => ?_) fun _ => iteInduction (fun hr => ?_) fun _ => h
  · have hm := h.member_of_active (.inr (.inr hc))
    exact iteInduction (fun _ => cuOk_withCu_member hm h.1) fun _ => raiseCensus_cuOk h
  · have hm := h.member_of_active (.inr (.inl hr))
    have moved : ∀ c : Cu, c.list = s.cu.list → (s.withCu c).cuOk := fun c hl =>
      cuOk_withCu_member hm (by simpa only [Cu.listOk, hl] using h.1)
    refine iteInduction (fun _ => signalled _ _ (moved _ rfl)) fun hn => ?_
    refine iteInduction (fun _ => raiseCensus_cuOk (moved _ rfl)) fun ho => ?_
    refine iteInduction (fun _ => raiseCensus_cuOk (signalled _ _ (moved _ rfl))) fun hl => ?_
    exact raiseCensus_cuOk (cuOk_withCu_member hm
      (listOk_append h.1 hn (Bool.eq_false_iff.2 ho) (Nat.lt_of_not_le hl)))

theorem censusYield_cuOk (l : Level) (n : Station) (h : s.cuOk) : (censusYield l n s).cuOk := by
  refine iteInduction (fun hr => ?_) fun _ => h
  have restarted : ∀ c : Cu, c.list = [] → (s.withCu c).cuOk := fun c hl =>
    cuOk_withCu_member (h.member_of_active (.inr (.inl hr.1))) (listOk_nil hl)
  exact iteInduction (fun _ => restarted _ rfl) fun _ => restarted _ rfl

theorem cuCensus_cuOk (w : Bool) (m : Station) (l : Level) (n : Station) (h : s.cuOk) : (cuCensus w m l n s).cuOk :=
  censusRecheck_cuOk (iteInduction (fun _ => censusStep_cuOk l n h) fun _ => censusYield_cuOk l n h)

theorem censusBegin_cuOk (l : Level) (hm : s.mc.state = .member) : (censusBegin l s).cuOk :=
  iteInduction (fun _ => cuOk_withCu_member hm (listOk_nil rfl)) fun _ => censusRun_cuOk hm (listOk_nil rfl)

theorem exclusionRunsOut_cuOk (h : s.cuOk) : (exclusionRunsOut s).cuOk := by
  simp only [exclusionRunsOut]
  split
  · exact censusRecheck_cuOk h
  · exact h

theorem holdOffRunsOut_cuOk (h : s.cuOk) : (holdOffRunsOut s).cuOk :=
  iteInduction (fun _ => censusRecheck_cuOk h) fun _ => h

/-! ### Line faults (R36, R47 to R50, R180) -/

/-- A Member that leaves abandons the census at work and its close (R180). -/
theorem cuLeaveMember_idle (s : State) : (cuLeaveMember s).cu.state ≠ .waiting
    ∧ (cuLeaveMember s).cu.state ≠ .running ∧ (cuLeaveMember s).cu.closeOwed = false := by
  simp only [cuLeaveMember, State.withCu_cu]
  split
  · simp
  next hi => simp_all

theorem memberToDegraded_cu (f : LineFault) (s : State) : (memberToDegraded f s).cu = (cuLeaveMember s).cu := by
  simp [memberToDegraded, cuLeaveMember]

theorem reportFault_cuOk {f : LineFault} (h : s.cuOk) : (reportFault f s).cuOk := by
  simp only [reportFault]
  split
  · simp only [State.cuOk, memberToDegraded_cu]
    exact ⟨h.1, fun _ => cuLeaveMember_idle s⟩
  next hj =>
    have idle := h.2 (by simp [hj])
    exact iteInduction (fun _ => h) fun _ => ⟨by simpa using h.1, fun _ => by simpa using idle⟩
  · exact cuOk_congr (by simp) (by simp) h
  all_goals exact h

theorem lostSync_censusInv (h : s.cuOk) : (lostSync s).censusInv :=
  censusInv_of_noRound (reportFault_cuOk h) (lostSync_spec s).2

theorem pulseDriveFault_censusInv (h : s.cuOk) : (pulseDriveFault s).censusInv :=
  censusInv_of_noRound (reportFault_cuOk h) (pulseDriveFault_spec s).2

theorem stuckLineFound_censusInv (h : s.censusInv) : (stuckLineFound s).censusInv := by
  refine iteInduction (fun _ => h) fun _ => censusInv_of_noRound (reportFault_cuOk h.cuOk) ?_
  simp [abandonRound]

/-- A drive fault abandons the record that it leaves standing (R14, R36). -/
theorem driveFault_censusInv (h : s.cuOk) : (driveFault s).censusInv := by
  refine (censusInv_iff _).2 ⟨reportFault_cuOk h, fun r hr _ ha => ?_⟩
  obtain ⟨-, record, -⟩ := driveFault_spec s
  obtain ⟨q, -, rfl⟩ := Option.map_eq_some_iff.1 (record.symm.trans hr)
  simp at ha

/-! ### The outcome of a round (R34, R43 to R46) -/

theorem admitStation_cuOk (c : Half) (m : HoldMap) (h : s.cu.listOk) : (admitStation c m s).cuOk :=
  cuOk_withCu_member (by simp) (by simpa [Cu.listOk] using h)

theorem refuse_cuOk (f : LineFault) (b : Bool) (h : s.cuOk) (hm : s.mc.state ≠ .member) : (refuse f b s).cuOk :=
  ⟨by simpa using h.1, fun _ => by simpa using h.2 hm⟩

theorem judgeJoin_cuOk (b : Bool) (x n c : Half) (m : HoldMap) (h : s.cuOk) (hm : s.mc.state ≠ .member) :
    (judgeJoin b x n c m s).cuOk :=
  iteInduction (fun _ => refuse_cuOk _ _ h hm) fun _ =>
    iteInduction (fun _ => admitStation_cuOk _ _ h.1) fun _ => refuse_cuOk _ _ h hm

theorem commitStatus_cuOk (r : RoundRecord) (h : s.cuOk) : (commitStatus r s).cuOk := by
  obtain ⟨listed, idle⟩ := h
  simp only [State.cuOk, commitStatus_cu, commitStatus_frame]
  split <;> exact ⟨listed, idle⟩

theorem commitCensus_cuOk (r : RoundRecord) (h : s.cuOk) : (commitCensus r s).cuOk :=
  cuCensus_cuOk _ _ _ _ (iteInduction (fun _ => h) fun _ => h)

/-- A commit at a follower whose role is that of its membership state: only the winning joiner's moves that state. -/
theorem commitRound_cuOk (h : s.cuOk) (hr : r.role = .member ↔ s.mc.state = .member) : (commitRound r s).cuOk := by
  have counted : (s.withRe { s.re with voids := 0 }).cuOk := h
  simp only [commitRound]
  split
  · exact commitStatus_cuOk r counted
  · exact cuOk_congr (by simp) (by simp) counted
  · exact commitCensus_cuOk r counted
  · exact iteInduction (fun _ => cuOk_congr (by simp) (by simp) counted) fun hn =>
      judgeJoin_cuOk _ _ _ _ _ counted fun hm => hn (hr.2 hm)
  · exact counted

/-- A commit leaves the LIF where it is, but for the refusal that ends the record too (R44). -/
theorem commitRound_stays (r : RoundRecord) (s : State) :
    (commitRound r s).lif = s.lif ∨ (commitRound r s).re.record = none := by
  simp only [commitRound]
  split
  · exact .inl (by simp)
  · exact .inl (by simp)
  · exact .inl (by simp)
  · simp only [commitJoin, judgeJoin]
    split
    · exact .inl (by simp)
    · split
      · exact .inr (refuse_record _ _ _)
      · split
        · exact .inl (by simp)
        · exact .inr (refuse_record _ _ _)
  · exact .inl (by simp)

theorem voidRound_cuOk (h : s.cuOk) : (voidRound s).cuOk := by
  have returned : ∀ x, ((returnOffers (s.withRe s.re.clearMarks)).withRe x).cuOk := fun x =>
    cuOk_congr (by simp) (by simp) h
  exact iteInduction (fun _ => returned _) fun _ => reportFault_cuOk (returned _)

theorem closeRound_censusInv (h : s.censusInv) : (closeRound s).censusInv :=
  iteInduction (fun _ => censusInv_of_noRound h.cuOk rfl) fun _ => h

theorem endOfVoid_censusInv (h : s.cuOk) (hr : s.roleFits r) : (endOfVoid r s).censusInv := by
  by_cases ho : r.abandoned = true ∨ r.hasOutcome = false
  · rw [endOfVoid, if_pos (by simpa using ho)]
    exact closeRound_censusInv (censusInv_of_closing (s := voidEnded s) h rfl)
  · simp only [not_or, Bool.not_eq_true, Bool.not_eq_false] at ho
    obtain ⟨stands, outcome⟩ := ho
    rw [endOfVoid_with_outcome stands outcome]
    refine iteInduction (fun _ => ?_) fun _ => ?_
    · exact censusInv_of_closing (voidRound_cuOk h) (by simp [voidEnded, Lif.leave])
    · have committed : (commitRound r (voidEnded s)).cuOk := commitRound_cuOk h (hr stands)
      rcases commitRound_stays r (voidEnded s) with hl | hn
      · exact censusInv_of_closing committed (by rw [hl]; rfl)
      · exact censusInv_of_noRound committed hn

/-! ### Bits -/

theorem bitBegin_censusInv (h : s.censusInv) : (bitBegin s).censusInv := by
  refine censusInv_withLif ?_ id
  split
  next r hr =>
    refine iteInduction (fun _ => ?_) fun _ => h
    refine censusInv_setRecord (r := r) ?_ ?_ (noteDriven_sameRole _ _)
    · exact iteInduction (fun _ => censusInv_congr h (by simp)) fun _ => h
    · split <;> simpa using hr
  · exact h

theorem bitSample_censusInv (x : Bool) (h : s.censusInv) : (bitSample x s).censusInv := by
  simp only [bitSample]
  split
  · exact h
  next r hr =>
    have taken : ∀ {q : RoundRecord}, q.sameRole r → (setRecord (some q) s).censusInv := censusInv_setRecord h hr
    split
    · exact iteInduction (fun _ => lostSync_censusInv h.cuOk) fun _ => taken ⟨rfl, rfl⟩
    · refine iteInduction (fun _ => iteInduction (fun _ => lostSync_censusInv h.cuOk) fun _ => ?_) fun _ =>
        taken ⟨rfl, rfl⟩
      exact censusInv_setRecord (censusInv_withLif h id) hr ⟨rfl, rfl⟩
    all_goals exact iteInduction (fun _ => driveFault_censusInv h.cuOk) fun _ => taken ⟨rfl, rfl⟩

theorem standAside_censusInv (h : s.cuOk) : (standAside s).censusInv := censusInv_of_noRound h rfl

theorem bitEnd_censusInv (h : s.censusInv) (hs : s.lif.state = .round) : (bitEnd s).censusInv := by
  simp only [bitEnd]
  split
  · exact h
  next r hr =>
    have passed : (s.withLif { s.lif with bitPos := s.lif.bitPos + 1, period := 0 }).censusInv := censusInv_withLif h id
    have moved : ∀ {q : RoundRecord}, q.sameRole r → _ := censusInv_setRecord passed hr
    refine iteInduction (fun _ => moved ⟨rfl, rfl⟩) fun _ => ?_
    split
    · exact endOfVoid_censusInv passed.cuOk (passed.fits hr (by simp [hs]))
    · exact iteInduction (fun _ => standAside_censusInv passed.cuOk) fun _ => moved (fieldDone_sameRole r _)
    all_goals exact moved ⟨rfl, rfl⟩

theorem watchBit_censusInv (x : Bool) (n : Nat) (h : s.censusInv) : (watchBit x n s).censusInv := by
  have counted : ∀ run, (s.withLif { s.lif with assertedRun := run }).censusInv := fun _ => censusInv_withLif h id
  exact iteInduction (fun _ => stuckLineFound_censusInv (counted _)) fun _ => counted _

theorem finishBit_censusInv (x : Bool) (h : s.censusInv) : (finishBit x s).censusInv := by
  refine iteInduction (fun _ => ?_) fun _ => h
  exact iteInduction (fun hr => bitEnd_censusInv (watchBit_censusInv _ _ h) hr) fun _ => watchBit_censusInv _ _ h

theorem runBit_censusInv (x : Bool) (s : State) (h : s.censusInv) : (runBit x s).censusInv := by
  refine iteInduction (motive := State.censusInv) (fun _ => ?_) fun _ => h
  have begun : (if s.lif.period = 0 then bitBegin s else s).censusInv :=
    iteInduction (fun _ => bitBegin_censusInv h) fun _ => h
  exact iteInduction
    (fun _ => finishBit_censusInv _ (bitSample_censusInv _ (watchBit_censusInv _ _ begun))) fun _ =>
      watchBit_censusInv _ _ begun

/-! ### The pulse, ROUND and the period watch -/

theorem releaseEdge_censusInv (n : Nat) (h : s.censusInv) (hs : s.lif.state = .pulse) :
    (releaseEdge n s).censusInv := by
  refine iteInduction (fun _ => stuckLineFound_censusInv h) fun _ => censusInv_withLif ?_ id
  exact bitBegin_censusInv (censusInv_withLif h fun _ => by simp [hs])

theorem glitchEnds_censusInv (h : s.censusInv) (hs : s.lif.state = .pulse) : (glitchEnds s).censusInv :=
  censusInv_congr (censusInv_withLif (x := { s.lif.leave .idle with idleRun := 0, assertedRun := 0 }) h
    fun _ => by simp [hs]) ⟨rfl, rfl, rfl, rfl⟩

theorem pulseEnds_censusInv (n : Nat) (h : s.censusInv) (hs : s.lif.state = .pulse) : (pulseEnds n s).censusInv :=
  iteInduction (fun _ => pulseDriveFault_censusInv h.cuOk) fun _ =>
    iteInduction (fun _ => releaseEdge_censusInv n h hs) fun _ => glitchEnds_censusInv h hs

theorem followRound_censusInv (n : Nat) (xs : List Bool) (h : s.censusInv) : (followRound n xs s).censusInv := by
  have edge : (if s.lif.state = .pulse ∧ s.re.record.isSome then pulseEnds (max n s.lif.stretch) s else s).censusInv :=
    iteInduction (fun hp => pulseEnds_censusInv _ h hp.1) fun _ => h
  exact runBits_induct _ State.censusInv runBit_censusInv xs
    (iteInduction (fun _ => finishBit_censusInv _ edge) fun _ => edge)

theorem withPins_censusInv (x : Pins) (h : s.censusInv) : (s.withPins x).censusInv := h

theorem setWakePeers_censusInv (b : Bool) (h : s.censusInv) : (setWakePeers b s).censusInv := h

theorem roundEffect_censusInv (n : Nat) (xs : List Bool) (b : Bool) (h : s.censusInv) :
    (roundEffect n xs b s).censusInv := by
  have followed := fun p => withPins_censusInv p (followRound_censusInv n xs h)
  exact iteInduction (fun _ => closeRound_censusInv (followed _)) fun _ => followed _

/-- The record is opened with the role of the membership state (R17). -/
theorem openRecord_censusInv (h : s.cuOk) : (openRecord s).censusInv := by
  refine (censusInv_iff _).2 ⟨h, fun r hr _ _ => ?_⟩
  obtain rfl := Option.some.inj hr
  by_cases hm : s.mc.state = .member <;> simp [hm]

theorem startIsAccepted_censusInv (h : s.cuOk) : (startIsAccepted s).censusInv := openRecord_censusInv h

theorem startRequest_censusInv (f : Option (Fin 6)) (h : s.censusInv) : (startRequest f s).censusInv := by
  simp only [startRequest]
  split
  next y _ =>
    refine iteInduction (fun hi => ?_) fun _ => h
    split
    · exact censusInv_congr (s := s.withLif (pulseBegins y s).lif) (censusInv_withLif h fun _ => by simp [hi])
        ⟨rfl, rfl, rfl, rfl⟩
    · exact pulseDriveFault_censusInv h.cuOk
  · exact h

theorem receiverPulse_censusInv (n : Nat) (h : s.censusInv) (hs : s.lif.state = .idle) :
    (receiverPulse n s).censusInv := censusInv_withLif h fun _ => by simp [hs]

theorem stretchReaches_censusInv (h : s.censusInv) : (stretchReaches s).censusInv := by
  simp only [stretchReaches]
  split
  · exact iteInduction (fun _ => startIsAccepted_censusInv h.cuOk) fun _ => h
  · exact startIsAccepted_censusInv h.cuOk
  · exact lostSync_censusInv h.cuOk
  all_goals exact h

theorem seekingEnds_censusInv (h : s.censusInv) (hs : s.lif.state = .seeking) : (seekingEnds s).censusInv :=
  censusInv_withLif h fun _ => by simp [hs]

theorem stuckClears_censusInv (h : s.censusInv) (hs : s.lif.state = .stuck) : (stuckClears s).censusInv :=
  censusInv_withLif h fun _ => by simp [hs]

theorem assertedReading_censusInv (h : s.censusInv) : (assertedReading s).censusInv :=
  iteInduction (fun _ => stuckLineFound_censusInv (censusInv_withLif h id)) fun _ => censusInv_withLif h id

theorem releasedReading_censusInv (h : s.censusInv) : (releasedReading s).censusInv := censusInv_withLif h id

theorem stretchGrows_censusInv (h : s.censusInv) : (stretchGrows s).censusInv :=
  iteInduction (fun _ => stuckLineFound_censusInv (censusInv_withLif h id)) fun _ =>
    iteInduction (fun _ => startIsAccepted_censusInv h.cuOk) fun _ => censusInv_withLif h id

theorem watchRound_censusInv (x : Bool) (h : s.censusInv) : (watchRound x s).censusInv := by
  have watched := watchBit_censusInv x 1 h
  have sampled : ∀ v : State, v.censusInv →
      (if v.lif.period = Config.samplePeriodOfBit then bitSample x v else v).censusInv := fun v hv =>
    iteInduction (fun _ => bitSample_censusInv x hv) fun _ => hv
  have passed := sampled (let w := watchBit x 1 s; w.withLif { w.lif with period := w.lif.period + 1 })
    (censusInv_withLif watched id)
  exact iteInduction (fun _ => iteInduction (fun he => bitEnd_censusInv passed he.1) fun _ => passed) fun _ => watched

theorem watchClosing_censusInv (x : Bool) (h : s.censusInv) : (watchClosing x s).censusInv := by
  have read : ∀ n, (assertedReading (s.withLif { s.lif with stretch := n })).censusInv := fun _ =>
    assertedReading_censusInv (censusInv_withLif h id)
  exact iteInduction (fun _ => iteInduction (fun _ => lostSync_censusInv (read _).cuOk) fun _ => read _) fun _ =>
    releasedReading_censusInv h

theorem watchLine_censusInv (x : Bool) (h : s.censusInv) : (watchLine x s).censusInv := by
  have asserted := assertedReading_censusInv h
  have released := releasedReading_censusInv h
  simp only [watchLine]
  split
  · exact h
  next hs =>
    exact iteInduction (fun _ => asserted) fun _ => iteInduction (fun _ => seekingEnds_censusInv released hs) fun _ =>
      released
  next hs =>
    exact iteInduction (fun _ => iteInduction (fun _ => receiverPulse_censusInv 1 h hs) fun _ => asserted) fun _ =>
      released
  next hs => exact iteInduction (fun _ => stretchGrows_censusInv h) fun _ => pulseEnds_censusInv _ h hs
  · exact watchRound_censusInv x h
  · exact watchClosing_censusInv x h
  next hs => exact iteInduction (fun _ => asserted) fun _ => stuckClears_censusInv h hs

theorem driveForPeriod_censusInv (h : s.censusInv) : (driveForPeriod s).censusInv := by
  simp only [driveForPeriod]
  split
  · exact censusInv_withLif h id
  · exact iteInduction (fun _ => bitBegin_censusInv h) fun _ => h
  all_goals exact h

/-! ### Expiries, decisions and the period -/

/-- An effect of the CU alone, as far as the invariant sees. -/
theorem censusInv_of_cuOk (h : s.censusInv) (hc : t.cuOk)
    (hx : t.lif = s.lif ∧ t.re.record = s.re.record ∧ t.mc = s.mc) : t.censusInv := by
  obtain ⟨hl, hr, hm⟩ := hx
  refine (censusInv_iff t).2 ⟨hc, fun r hrec hs => ?_⟩
  simpa only [State.roleFits, hm] using h.fits (hr ▸ hrec) (hl ▸ hs)

theorem exclusionRunsOut_censusInv (h : s.censusInv) : (exclusionRunsOut s).censusInv :=
  censusInv_of_cuOk h (exclusionRunsOut_cuOk h.cuOk) (by simp [exclusionRunsOut_record])

theorem holdOffRunsOut_censusInv (h : s.censusInv) : (holdOffRunsOut s).censusInv :=
  censusInv_of_cuOk h (holdOffRunsOut_cuOk h.cuOk) (by simp [holdOffRunsOut_record])

theorem countExclusion_censusInv (h : s.censusInv) : (countExclusion s).censusInv := by
  simp only [countExclusion]
  split
  · exact iteInduction (fun _ => exclusionRunsOut_censusInv h) fun _ => h
  · exact h

theorem countHoldOff_censusInv (h : s.censusInv) : (countHoldOff s).censusInv :=
  iteInduction (fun _ => holdOffRunsOut_censusInv h) fun _ => h

theorem takeDueDecisions_censusInv (h : s.censusInv) : (takeDueDecisions s).censusInv :=
  censusInv_congr h (by simp)

theorem periodCounts_censusInv : ∀ f ∈ periodCounts, ∀ t : State, t.censusInv → (f t).censusInv := by
  have keep_cu : ∀ f ∈ periodCounts, ∀ t, (f t).cu = t.cu := by simp [periodCounts]
  intro f hf t h
  obtain ⟨hl, hm⟩ := periodCounts_keep_lif f hf t
  exact censusInv_congr h ⟨by rw [hl], periodCounts_record f hf t, hm, keep_cu f hf t⟩

theorem periodBegins_censusInv (due : Bool) :
    ∀ f ∈ periodBegins due, ∀ t : State, t.censusInv → (f t).censusInv := by
  intro f hf t h
  simp only [periodBegins, List.cons_append, List.mem_append, List.mem_cons, List.not_mem_nil, or_false] at hf
  rcases hf with rfl | hf | rfl | rfl | rfl
  · exact closeRound_censusInv h
  · exact periodCounts_censusInv f hf t h
  · exact iteInduction (fun _ => takeDueDecisions_censusInv h) fun _ => h
  · exact iteInduction (fun _ => startRequest_censusInv _ h) fun _ => h
  · exact driveForPeriod_censusInv h

/-- Of the counts of a tick the exclusion record's age and the hold-off alone touch the CU (R170, R172). -/
theorem tickCounts_censusInv : ∀ f ∈ tickCounts, ∀ t : State, t.censusInv → (f t).censusInv := by
  intro f hf t h
  simp only [tickCounts, List.mem_append, List.mem_map, List.mem_cons, List.not_mem_nil, or_false] at hf
  rcases hf with ⟨i, -, rfl⟩ | rfl | rfl | rfl | rfl | rfl | rfl | rfl | rfl | rfl | rfl
  on_goal 10 => exact countExclusion_censusInv h
  on_goal 10 => exact countHoldOff_censusInv h
  all_goals exact censusInv_congr h (by simp)

theorem periodEnds_censusInv : ∀ f ∈ periodEnds, ∀ t : State, t.censusInv → (f t).censusInv := by
  intro f hf t h
  simp only [periodEnds, List.mem_cons, List.not_mem_nil, or_false] at hf
  rcases hf with rfl | rfl | rfl | rfl | rfl | rfl | rfl
  · exact watchLine_censusInv _ h
  all_goals exact censusInv_congr h (by simp)

theorem slowPeriod_censusInv (h : s.censusInv) : (slowPeriod s).censusInv := by
  refine slowPeriod_induct s State.censusInv (fun due f hf t ht => ?_) h
  rw [List.mem_append, List.mem_append] at hf
  rcases hf with (hf | hf) | hf
  · exact periodBegins_censusInv due f hf t ht
  · exact tickCounts_censusInv f hf t ht
  · exact periodEnds_censusInv f hf t ht

/-! ### The link and the starts -/

theorem setTxn_censusInv (x : Option Txn) (s : State) (h : s.censusInv) : (setTxn x s).censusInv := h

/-- Entry to Joining from a state other than Member: no round changes its role (R41). -/
theorem enterJoining_censusInv (h : s.censusInv) (hm : s.mc.state ≠ .member) : (enterJoining s).censusInv := by
  have idle := h.cuOk.2 hm
  refine (censusInv_iff _).2 ⟨⟨by simpa using h.cuOk.1, fun _ => by simpa using idle⟩, fun r hr hs => ?_⟩
  have undelivered : s.lif.state ≠ .closing := fun hc => hs (by simp [enterJoining_lif, hc])
  simpa [State.roleFits, hm] using h.fits (by simpa using hr) undelivered

theorem fixConfiguration_censusInv (h : s.censusInv) (hf : s.fixed = false) : (fixConfiguration s).censusInv := by
  have unconfigured : s.mc.state = .unconfigured := by simpa [State.fixed] using hf
  have entered := enterJoining_censusInv
    (s := s.withMc { s.mc with number := s.pl.store.stationNumber, digest := s.pl.store.digest })
    (censusInv_congr h ⟨rfl, rfl, rfl, rfl⟩) (by simp [unconfigured])
  exact censusInv_congr entered (by simp only [fixConfiguration]; simp)

/-- A census starts at a Member alone (R171). -/
theorem startCensusAnswer_member (l : Byte) (s : State) : (startCensusAnswer l s).state = s
    ∨ s.mc.state = .member ∧ (startCensusAnswer l s).state = censusBegin (Fin.ofNat 8 l.toNat) s := by
  simp only [startCensusAnswer]
  (repeat' split) <;> simp_all [outOfRange, wrongState, done]

theorem startCensusAnswer_censusInv (l : Byte) (h : s.censusInv) : (startCensusAnswer l s).state.censusInv := by
  rcases startCensusAnswer_member l s with hs | ⟨hm, hs⟩ <;> rw [hs]
  · exact h
  · exact censusInv_of_cuOk h (censusBegin_cuOk _ hm) (by simp [censusBegin_record])

/-- An abandoned census is a Member's, so its close may be owed (R179). -/
theorem abandonAnswer_censusInv (h : s.censusInv) : (abandonAnswer s).state.censusInv := by
  have abandoned : ∀ c : Cu, s.cu.state = .waiting ∨ s.cu.state = .running → c.list = s.cu.list →
      (s.withCu c).censusInv := fun c ha hl =>
    censusInv_of_cuOk h (cuOk_withCu_member (h.cuOk.member_of_active (by tauto))
      (by simpa only [Cu.listOk, hl] using h.cuOk.1)) ⟨rfl, rfl, rfl⟩
  simp only [abandonAnswer]
  split
  next hr => exact abandoned _ (.inr hr) rfl
  next hw => exact abandoned _ (.inl hw) rfl
  all_goals exact h

theorem rejoinAnswer_censusInv (h : s.censusInv) : (rejoinAnswer s).state.censusInv := by
  simp only [rejoinAnswer]
  split
  next hi => exact enterJoining_censusInv h (by simp [hi])
  · exact censusInv_congr h (by simp [done])
  all_goals exact h

theorem coldState_censusInv (s : State) : (coldState s).censusInv :=
  censusInv_of_noRound ⟨listOk_nil rfl, fun _ => by simp [coldState, Cu.cold]⟩ rfl

theorem warmState_censusInv (s : State) : (warmState s).censusInv :=
  censusInv_of_noRound ⟨listOk_nil rfl, fun _ => by simp [warmState, Cu.cold]⟩ rfl

theorem resetLow_censusInv (h : s.cuOk) : (resetLow s).censusInv := censusInv_of_noRound h rfl

end CensusInv

/-! ### The census invariant along a step -/

/-- Every command keeps the census and the role of the round. -/
theorem exec_censusInv {c : Instr} {s t : State} (h : s.censusInv) (he : exec c s = .next t) : t.censusInv := by
  have kept : ∀ {f : State → State}, gated s f = .next t → (f s).censusInv → t.censusInv := fun he hf =>
    gated_keeps he h fun _ => hf
  have framed : ∀ {f : State → State}, gated s f = .next t → (f s).lif.state = s.lif.state
      ∧ (f s).re.record = s.re.record ∧ (f s).mc.state = s.mc.state ∧ (f s).cu = s.cu → t.censusInv := fun he hf =>
    kept he (censusInv_congr h hf)
  have linked : ∀ {owner : State → Answer} {u : State}, linkCommand owner s = .next t → (owner s).state = u →
      u.censusInv → t.censusInv := fun he hu hr => linkCommand_keeps he h setTxn_censusInv fun _ => hu ▸ hr
  have same : ∀ {u : State}, u.lif.state = s.lif.state ∧ u.re.record = s.re.record ∧ u.mc.state = s.mc.state
      ∧ u.cu = s.cu → u.censusInv := censusInv_congr h
  cases c with
  | coldStart => exact Host.Outcome.next.inj he ▸ coldState_censusInv s
  | warmStart =>
    obtain rfl := Host.Outcome.next.inj he
    exact iteInduction (fun _ => warmState_censusInv s) fun _ => coldState_censusInv s
  | rstNLow => exact Host.Outcome.next.inj he ▸ resetLow_censusInv h.cuOk
  | seekingEnd =>
    exact kept he (iteInduction (fun hs => setWakePeers_censusInv _ (seekingEnds_censusInv h hs)) fun _ => h)
  | startRequest f => exact kept he (startRequest_censusInv f h)
  | startPulseSeen =>
    exact kept he (iteInduction (fun hs => setWakePeers_censusInv _ (receiverPulse_censusInv 1 h hs)) fun _ => h)
  | startAccepted => exact kept he (stretchReaches_censusInv h)
  | glitch =>
    exact kept he (iteInduction (fun hs => setWakePeers_censusInv _ (pulseEnds_censusInv _ h hs.1)) fun _ => h)
  | round n xs b => exact kept he (iteInduction (fun _ => roundEffect_censusInv n xs b h) fun _ => h)
  | stuckLine =>
    simp only [exec, execStuckLine] at he
    exact kept he (iteInduction (fun _ => h) fun _ => setWakePeers_censusInv _ (stuckLineFound_censusInv h))
  | stuckLineCleared =>
    exact kept he (iteInduction (fun hs => setWakePeers_censusInv _ (stuckClears_censusInv h hs)) fun _ => h)
  | assertedPeriodWatchReading =>
    simp only [exec, execAssertedPeriodWatchReading] at he
    exact kept he (watchLine_censusInv _ (driveForPeriod_censusInv h))
  | exclusionAgeOut => exact kept he (exclusionRunsOut_censusInv h)
  | holdOffEnd => exact kept he (holdOffRunsOut_censusInv h)
  | senseFilteredEdge k b =>
    simp only [exec, execSenseFilteredEdge] at he
    exact framed he (by simp)
  | rejoinTimerExpiry | localDecision | wakeTimerExpiry | patienceExpiry | lingerExpiry | heartbeatExpiry
  | settleExpiry | helloTimerExpiry | graceExpiry | quietDelayExpiry | linkHoldExpiry | batteryTimerExpiry
  | quietIntervalExpiry | conversionEnd | sampleBoundary => exact framed he (by simp)
  | clockConfirmed | clockSettleTimeout | clockOutOfTolerance => exact framed he (by split <;> simp)
  | linkSelect => exact Host.Outcome.next.inj he ▸ same (by simp)
  | linkDeselect n => exact Host.Outcome.next.inj he ▸ same (by simp)
  | unknownCommand b =>
    obtain rfl := Host.Outcome.next.inj he
    exact iteInduction (fun _ => setTxn_censusInv _ s h) fun _ => h
  | readStationStatus | readCauseTable | readEpisodeTable | readDrainRecord => exact linked he rfl h
  | readCensus => exact linked he rfl (by split <;> exact h)
  | readAndClearEvents => exact linked he rfl (same (by simp [reads]))
  | readConfigSection i => exact linked he rfl (by split <;> exact h)
  | writeConfigSection i b =>
    have written : ∀ b', (writeSection i b' s).state.censusInv := fun b' => by
      rcases writeSection_state s i b' with hs | ⟨-, hs⟩ <;> rw [hs]
      · exact h
      · exact same ⟨rfl, rfl, rfl, rfl⟩
    simp only [exec, execWriteConfigSection] at he
    split at he
    · exact linked he rfl (written _)
    · split at he
      · exact linked he rfl (written _)
      · exact Host.Outcome.next.inj he ▸ same (by simp)
  | fix =>
    rcases fixAnswer_state s with hs | ⟨hf, hs⟩
    · exact linked he hs h
    · exact linked he hs (fixConfiguration_censusInv h hf)
  | postCause i c l p r =>
    rcases postAnswer_state s i c l p r with hs | hs | hs
    · exact linked he hs h
    · exact linked he hs (same (by simp))
    · exact linked he hs (same (by simp))
  | releaseCause i =>
    rcases releaseAnswer_state s i with hs | hs
    · exact linked he hs h
    · exact linked he hs (same (by simp [releaseSlot_record]))
  | armTimer n c m =>
    rcases armAnswer_state s n c m with hs | hs
    · exact linked he hs h
    · exact linked he hs (same (by simp))
  | startCensus l => exact linked he rfl (startCensusAnswer_censusInv l h)
  | abandonCensus => exact linked he rfl (abandonAnswer_censusInv h)
  | hello =>
    rcases helloAnswer_state s with hs | hs
    · exact linked he hs h
    · exact linked he hs (same (by simp))
  | park =>
    rcases parkAnswer_state s with hs | hs
    · exact linked he hs h
    · exact linked he hs (same (by simp))
  | clearCut =>
    rcases clearCutAnswer_state s with hs | hs | hs
    · exact linked he hs h
    · exact linked he hs (same (by simp))
    · exact linked he hs (same (by simp))
  | requestRefill =>
    rcases refillAnswer_state s with hs | hs
    · exact linked he hs h
    · exact linked he hs (same (by simp [raiseStatus_record]))
  | requestRestore =>
    rcases restoreAnswer_state s with hs | hs
    · exact linked he hs h
    · exact linked he hs (same (by simp [raiseStatus_record]))
  | rejoin => exact linked he rfl (rejoinAnswer_censusInv h)

/-- Settles O14: the invariant is kept by every slow-clock period and by every command. -/
theorem stepKeepsTheCensus : Obligations.StepKeepsTheCensus := by
  intro s t h he
  simp only [step] at he
  split at he
  · exact Host.Outcome.next.inj he ▸ slowPeriod_censusInv h
  · exact exec_censusInv (censusInv_congr h (by simp)) he

end Sys2Proof.Machine

namespace Sys2Proof.Machine

/-! ## Wants and the network's timers (R31, R49, R102, R105) -/

section NetworkTimers

variable (s : State)

/-- A raised Join want is held, and it is all that moves in the RE (R31). -/
theorem raiseJoin_spec : (raiseJoin s).re = { s.re with join := (raiseJoin s).re.join }
    ∧ (raiseJoin s).re.join.held = true := by
  simp only [raiseJoin]
  split
  next held => exact ⟨rfl, held⟩
  next => exact ⟨rfl, rfl⟩

theorem raiseStatus_wantFrame : wantFrame s (raiseStatus s) := by
  simp only [wantFrame, raiseStatus]
  split <;> exact ⟨rfl, rfl⟩

/-- A raised Rest want is held by a Member (R31). -/
theorem raiseRest_member (hm : s.mc.state = .member) :
    raiseRest s = s.withRe { s.re with rest := s.re.rest.raise (s.pastCovering .rest) } := if_pos hm

/-- A Rest want is kept by no other station (R31). -/
theorem raiseRest_other (hm : s.mc.state ≠ .member) : raiseRest s = s := if_neg hm

theorem heartbeatRunsOut_running (h : s.ev.heartbeat ≠ none) :
    heartbeatRunsOut s = raiseStatus (s.withEv { s.ev with heartbeat := none }) :=
  if_pos (Option.isSome_iff_ne_none.2 h)

theorem rejoinRunsOut_running (hm : s.mc.state = .degraded) (h : s.mc.rejoin ≠ none) :
    rejoinRunsOut s = raiseJoin (s.withMc { s.mc with rejoin := none }) :=
  if_pos ⟨hm, Option.isSome_iff_ne_none.2 h⟩

/-- A settle expiry outside local mode asks for a Rest round (R102). -/
theorem settleRunsOut_network (h : s.ev.settle ≠ none) (hl : s.isLocal = false) :
    settleRunsOut s = raiseRest (s.withEv { s.ev with settle := none }) := by
  have out : (s.withEv { s.ev with settle := none }).isLocal = false := hl
  simp [settleRunsOut, Option.isSome_iff_ne_none.2 h, out]

/-- A settle expiry in local mode leads to a Rest decision, behind a Status decision that is due (R56, R109; log 16). -/
theorem settleRunsOut_local (h : s.ev.settle ≠ none) (hl : s.isLocal = true) :
    settleRunsOut s = if s.mc.decisionDue
      then (s.withEv { s.ev with settle := none }).withMc { s.mc with restDue := true }
      else localRest (s.withEv { s.ev with settle := none }) := by
  have inside : (s.withEv { s.ev with settle := none }).isLocal = true := hl
  simp [settleRunsOut, Option.isSome_iff_ne_none.2 h, inside]

end NetworkTimers

/-- Settles O27. -/
theorem rejoinTimerRaisesTheJoinWant : Obligations.RejoinTimerRaisesTheJoinWant := by
  intro s hr hm ht
  obtain ⟨re, held⟩ := raiseJoin_spec (s.withMc { s.mc with rejoin := none })
  refine ⟨_, gated_of_rstN s rejoinRunsOut hr, ?_⟩
  rw [rejoinRunsOut_running s hm ht]
  exact ⟨by simp, held, re, by simp [changesOnly_iff]⟩

/-! ## The profile digest (R53) -/

/-- Without a carry out of bit 15 a step of the sum is a plain addition. -/
theorem onesAdd_of_no_carry {a w : Half} (h : a.toNat + w.toNat < 65536) : onesAdd a w = a + w := by
  simp only [onesAdd, if_pos h]
  exact BitVec.eq_of_toNat_eq (by simp)

/-- A carry out of bit 15 is added back into bit 0. -/
theorem onesAdd_of_carry {a w : Half} (h : 65536 ≤ a.toNat + w.toNat) : onesAdd a w = a + w + 1 := by
  simp only [onesAdd, if_neg (Nat.not_lt.2 h)]
  have one : (1 : Half).toNat = 1 := rfl
  refine BitVec.eq_of_toNat_eq ?_
  simp only [BitVec.toNat_ofNat, BitVec.toNat_add, one]
  omega

/-- Settles O54. -/
theorem digestIsTheOnesComplementSum : Obligations.DigestIsTheOnesComplementSum :=
  fun _ _ => ⟨⟨onesAdd_of_no_carry, onesAdd_of_carry⟩, fun _ => rfl⟩

end Sys2Proof.Machine

namespace Sys2Proof.Machine

/-! ## Entry to Joining, and the Rejoin command (R41, R51, R57) -/

section Joining

variable (s : State)

/-- What entry to Joining sets: the membership record, the freeze, the empty view and the Join want (R41). -/
theorem enterJoining_spec : (enterJoining s).mc = { s.mc with state := .joining, decisionDue := false, restDue := false }
    ∧ (enterJoining s).mpc = { s.mpc with frozen := true } ∧ (enterJoining s).ev = .cold
    ∧ (enterJoining s).re.join.held = true ∧ (enterJoining s).re.voids = 0 := by
  have wanted := (raiseJoin_spec ((s.withMc { s.mc with state := .joining, decisionDue := false, restDue := false }).withRe
    { s.re with voids := 0 })).2
  simp only [enterJoining]
  split <;> simpa [evJoining] using wanted

theorem raiseEvent_noticeFrame (e : Event) : noticeFrame s (raiseEvent e s) := ⟨rfl, rfl, rfl⟩

theorem enterJoining_noticeFrame : noticeFrame s (enterJoining s) := by
  have emptied : ∀ u : State, noticeFrame u (setTable [] u) := fun u =>
    iteInduction (motive := noticeFrame u) (fun _ => ⟨rfl, rfl, rfl⟩) fun _ => raiseEvent_noticeFrame _ _
  have joined : ∀ u : State, u.pl = s.pl → noticeFrame s (evJoining u) := fun u hu => by
    simpa [noticeFrame, evJoining, hu] using emptied u
  exact joined _ (by split <;> simp)

/-- The line of a Silent station begins to seek (R4, R41). -/
theorem enterJoining_seeks (h : s.lif.state = .silent) :
    (enterJoining s).lif.state = .seeking ∧ (enterJoining s).lif.idleRun = 0 := by
  rw [enterJoining_lif, if_pos h]
  exact ⟨rfl, rfl⟩

theorem linkReady_raila (h : s.linkReady) : s.mpc.raila = true := by
  obtain ⟨opened, -⟩ := h
  simp only [State.linkOpen, Bool.and_eq_true] at opened
  exact opened.1.2

/-- A link command taken with RAILA left on: its effect with its answer (R182). -/
theorem linkCommand_answers {s : State} {owner : State → Answer} (h : s.linkReady)
    (ha : (owner s).state.mpc.raila = true) :
    linkCommand owner s = .next ((owner s).state.withAnswer (owner s).status (owner s).response) :=
  linkCommand_taken s owner h.1 h.2 ha

/-- A link command that its owner refuses, or answers without an effect. -/
theorem linkCommand_unmoved {s : State} {owner : State → Answer} {a : Byte} {b : List Byte} (h : s.linkReady)
    (ho : owner s = ⟨s, a, b⟩) : linkCommand owner s = .next (s.withAnswer a b) := by
  rw [linkCommand_answers h (by rw [ho]; exact linkReady_raila s h), ho]

/-- An answer touches the transaction alone. -/
@[simp] theorem withAnswer_frame (a : Byte) (b : List Byte) : (s.withAnswer a b).lif = s.lif ∧ (s.withAnswer a b).re = s.re
    ∧ (s.withAnswer a b).mc = s.mc ∧ (s.withAnswer a b).ct = s.ct ∧ (s.withAnswer a b).ev = s.ev
    ∧ (s.withAnswer a b).mpc = s.mpc ∧ (s.withAnswer a b).mu = s.mu ∧ (s.withAnswer a b).da = s.da
    ∧ (s.withAnswer a b).cu = s.cu ∧ (s.withAnswer a b).pins = s.pins ∧ (s.withAnswer a b).time = s.time
    ∧ (s.withAnswer a b).pending = s.pending := by
  simp [State.withAnswer]

@[simp] theorem withAnswer_pl (a : Byte) (b : List Byte) : (s.withAnswer a b).pl.txn = some (.taken (a :: b))
    ∧ (s.withAnswer a b).pl.store = s.pl.store ∧ (s.withAnswer a b).pl.refill = s.pl.refill
    ∧ (s.withAnswer a b).pl.restore = s.pl.restore := ⟨rfl, rfl, rfl, rfl⟩

end Joining

/-- Settles O59: the three answers of the membership states. -/
theorem rejoinByMembership : Obligations.RejoinByMembership := by
  intro s hs
  refine ⟨fun hm => ?_, fun hm => ?_, fun hm => linkCommand_unmoved hs ?_⟩
  · have owner : rejoinAnswer s = done (enterJoining s) := by simp only [rejoinAnswer, hm]
    obtain ⟨mc, mpc, ev, held, voids⟩ := enterJoining_spec s
    have taken := linkCommand_answers (owner := rejoinAnswer) hs (by rw [owner, done, mpc]; exact linkReady_raila s hs)
    refine ⟨_, taken, ?_⟩
    obtain ⟨refill, restore, store⟩ := enterJoining_noticeFrame s
    simp only [owner, done, withAnswer_frame, withAnswer_pl, noticeFrame]
    refine ⟨rfl, by simp, held, voids, by rw [ev]; rfl, by rw [mpc], enterJoining_seeks s, by rw [mc], by rw [mc], store,
      by simp, mpc, ⟨refill, restore, store⟩, by simp [changesOnly_iff]⟩
  · have owner : rejoinAnswer s = done (raiseJoin (s.withMc { s.mc with rejoin := none })) := by
      simp only [rejoinAnswer, hm]
    have raila := linkReady_raila s hs
    have taken := linkCommand_answers (owner := rejoinAnswer) hs (by rw [owner, done]; simpa using raila)
    refine ⟨_, taken, ?_⟩
    have held := (raiseJoin_spec (s.withMc { s.mc with rejoin := none })).2
    simp only [owner, done, State.withAnswer, State.withPl_pl]
    exact ⟨by simp [statusDone], by simp, held, by simp [changesOnly_iff]⟩
  · rcases hm with hm | hm | hm <;> simp only [rejoinAnswer, hm] <;> rfl

end Sys2Proof.Machine

namespace Sys2Proof.Machine

/-! ## Hold maps and the levels they hold (R196) -/

theorem mem_levels {l : Level} : l ∈ levels ↔ l ≠ 0 := by revert l; decide

/-- The bit of one level in the map that holds it alone. -/
theorem levelBit_getLsbD (j : Nat) {k : Nat} (hk : k < 7) : (BitVec.ofNat 7 (2 ^ j)).getLsbD k = (j == k) := by
  rw [BitVec.getLsbD_ofNat, Nat.testBit_two_pow, decide_eq_true hk, Bool.true_and, beq_eq_decide]

/-- A bit of a map to which the levels that satisfy p have been added. -/
theorem holdOf_foldl_getLsbD (p : Level → Bool) (ls : List Level) (h : HoldMap) {k : Nat} (hk : k < 7) :
    (ls.foldl (fun h l => if p l then h ||| BitVec.ofNat 7 (2 ^ (l.val - 1)) else h) h).getLsbD k
      = (h.getLsbD k || ls.any fun l => p l && l.val - 1 == k) := by
  induction ls generalizing h with
  | nil => simp
  | cons l ls ih =>
    rw [List.foldl_cons, ih, List.any_cons]
    cases p l
    · simp
    · rw [if_pos rfl, BitVec.getLsbD_or, levelBit_getLsbD _ hk, Bool.true_and, Bool.or_assoc]

/-- A level's bit is asserted in the map of the levels that satisfy p exactly when the level does (R196). -/
theorem holdHas_holdOf (p : Level → Bool) {l : Level} (hl : l ∈ levels) : holdHas (holdOf p) l = p l := by
  have place : ∀ m ∈ levels, ∀ l ∈ levels, m.val - 1 = l.val - 1 → m = l := by decide
  have nonzero := mem_levels.1 hl
  rw [holdHas, holdOf, holdOf_foldl_getLsbD p levels 0 (by omega), Bool.eq_iff_iff]
  simp only [Bool.and_eq_true, bne_iff_ne, show BitVec.getLsbD (0 : HoldMap) _ = false from BitVec.getLsbD_zero,
    Bool.false_or, List.any_eq_true, beq_iff_eq]
  constructor
  · rintro ⟨-, m, hm, held, same⟩
    exact place m hm l hl same ▸ held
  · exact fun held => ⟨nonzero, l, hl, held, rfl⟩

theorem levels_filter_holdOf (p : Level → Bool) : levels.filter (holdHas (holdOf p)) = levels.filter p :=
  List.filter_congr fun _ => holdHas_holdOf p

/-- A map that holds no level is empty. -/
theorem levels_filter_eq_nil {h : HoldMap} : levels.filter (holdHas h) = [] ↔ h = 0 := by
  refine ⟨fun none_held => BitVec.eq_of_getLsbD_eq fun i hi => ?_, fun empty => by subst empty; decide⟩
  have level : (⟨i + 1, by omega⟩ : Level) ∈ levels := mem_levels.2 (by simp [Fin.ext_iff])
  have unheld := List.filter_eq_nil_iff.1 none_held _ level
  simpa [holdHas, Fin.ext_iff] using unheld

end Sys2Proof.Machine

namespace Sys2Proof.Machine

/-! ## A local decision of the Rest kind (R56, R109) -/

section LocalRest

variable (s : State)

/-- The settle timer runs on, or is loaded, in Settling alone (R100 to R102). -/
theorem setNet_settle {n : NetState} (h : n ≠ .settling) : (setNet n s).ev.settle = none := by
  simp only [setNet, batteryOnNetChange_frame, if_neg h]
  split <;> simp

theorem netAfterRest_not_settling (b : Bool) : netAfterRest b ≠ .settling := by cases b <;> decide

/-- What a Rest commit or decision leaves of the view besides the table, the grade and the network state. -/
theorem evRest_keeps (h d : HoldMap) (b : Bool) :
    (evRest h d b s).ev.alarm = s.ev.alarm ∧ (evRest h d b s).ev.settle = none := by
  simp only [evRest, setTable_ev, setNet_ev, setNet_settle _ (netAfterRest_not_settling _), and_self]

/-- A Rest decision: the view shows the levels of the holding causes, and Rest or Awake (R56, R109). -/
theorem localRest_view : (localRest s).ev.grade = s.ev.grade ∧ (localRest s).ev.alarm = s.ev.alarm
    ∧ (localRest s).ev.settle = none
    ∧ (localRest s).ev.table.map (·.level)
      = (levels.filter fun l => s.ct.slots.any fun c => c.holding && c.level == l)
    ∧ (localRest s).ev.net
      = if (localRest s).ev.table = [] ∧ s.mpc.objection = false then .rest else .awake := by
  obtain ⟨grade, net, table⟩ := evRest_ev s s.ct.holdingLevels s.ct.holdingLevels s.mpc.objection
  obtain ⟨alarm, settle⟩ := evRest_keeps s s.ct.holdingLevels s.ct.holdingLevels s.mpc.objection
  have evaluated : (localRest s).ev = (evRest s.ct.holdingLevels s.ct.holdingLevels s.mpc.objection s).ev := by
    simp [localRest]
  have empty : (localRest s).ev.table = [] ↔ s.ct.holdingLevels = 0 := by
    rw [evaluated, ← levels_filter_eq_nil, ← table, List.map_eq_nil_iff]
  simp only [empty]
  rw [evaluated, net]
  refine ⟨grade, alarm, settle, table.trans (levels_filter_holdOf _), ?_⟩
  by_cases hold : s.ct.holdingLevels = 0 <;> cases s.mpc.objection <;> simp [netAfterRest, hold]

/-- A Rest decision carries no notice, and leaves the balance and the round counter (R56). -/
theorem localRest_keeps : (localRest s).pl.refill = s.pl.refill ∧ (localRest s).pl.restore = s.pl.restore
    ∧ (localRest s).da.spent = s.da.spent ∧ (localRest s).mc.counter = s.mc.counter := by
  obtain ⟨-, -, -, -, -, -, refill, restore, -⟩ := raisesOnly_trans
    (evRest_raisesOnly s s.ct.holdingLevels s.ct.holdingLevels s.mpc.objection) (evaluateNeed_raisesOnly _)
  have spent := (evaluateNeed_balance (evRest s.ct.holdingLevels s.ct.holdingLevels s.mpc.objection s)).1
  obtain ⟨mc, -⟩ := localRest_wantsOnly s
  exact ⟨refill, restore, spent.trans (by simp), by rw [mc]⟩

end LocalRest

/-- Settles O29: the heartbeat, then the settle timer by membership state. -/
theorem networkTimersAskForRounds : Obligations.NetworkTimersAskForRounds := by
  refine ⟨fun s hr ht => ?_, fun s hr ht => ?_⟩
  · refine ⟨_, gated_of_rstN s heartbeatRunsOut hr, ?_⟩
    rw [heartbeatRunsOut_running s ht]
    exact ⟨by simp, fun hm => raiseStatus_held _ hm, by simp [changesOnly_iff], raiseStatus_wantFrame _⟩
  · have expires : exec .settleExpiry s = .next (settleRunsOut s) := gated_of_rstN s settleRunsOut hr
    have apart : s.mc.state = .member ∨ s.mc.state = .joining ∨ s.mc.state = .unconfigured → s.isLocal = false :=
      fun hm => by rcases hm with hm | hm | hm <;> simp [State.isLocal, Membership.isLocal, hm]
    refine ⟨fun hm => ⟨_, expires, ?_⟩, fun hm => ?_, fun hl hd => ?_, fun hl hd => ⟨_, expires, ?_⟩⟩
    · rw [settleRunsOut_network s ht (apart (.inl hm)), raiseRest_member _ (by exact hm)]
      exact ⟨rfl, rfl, by simp [changesOnly_iff]⟩
    · have unkept : s.mc.state ≠ .member := by rcases hm with hm | hm <;> simp [hm]
      rw [expires, settleRunsOut_network s ht (apart (.inr hm)), raiseRest_other _ (by exact unkept)]
      rfl
    · rw [expires, settleRunsOut_local s ht hl, if_pos hd]
      rfl
    · obtain ⟨grade, -, settle, table, net⟩ := localRest_view (s.withEv { s.ev with settle := none })
      rw [settleRunsOut_local s ht hl, if_neg (by simp [hd])]
      exact ⟨settle, grade, by simp, by simp, by simp, table, net⟩

end Sys2Proof.Machine

namespace Sys2Proof.Machine

/-! ## A local decision of the Status kind in its order: CT, EV, CT, DA, MPC, then PL (R54, R55, R81, R108) -/

section LocalStatus

variable (s : State)

/-- The causes are offered first, and the decision is no longer due. -/
def localOffered : State := offerCauses (s.withMc { s.mc with decisionDue := false })

/-- Then the view takes the station's own values. -/
def localViewed : State := evStatus (localOffered s).localValues (localOffered s).localValues.hold none (localOffered s)

/-- Then the causes are judged, and a Refill acts. -/
def localRefilled : State :=
  if s.pl.refill then refill (ctStatus none s.ev.alarm (localViewed s)) else ctStatus none s.ev.alarm (localViewed s)

/-- Then a freeze ends, a Restore acts and the module is evaluated. -/
def localPowered : State := mpcStatus s.pl.restore (unfreeze (localRefilled s))

/-- Last the PL hears that its requests were carried. -/
theorem localStatus_eq : localStatus s = (localPowered s).withPl { (localPowered s).pl with
    refill := (localPowered s).pl.refill && !s.pl.refill
    restore := (localPowered s).pl.restore && !s.pl.restore } := rfl

/-- What the CT offers is judged against the view before the decision (log 20). -/
theorem localOffered_slots : (localOffered s).ct.slots
    = s.ct.slots.map fun c => if s.offerable c then { c with offered := true } else c := rfl

theorem offer_holding (p : Cause → Bool) (c : Cause) :
    (if p c then { c with offered := true } else c : Cause).holding = c.holding := by split <;> rfl

/-- The levels that the station drives at its own decision: those of its holding and its offered causes (R54, R73). -/
theorem localOffered_levels : levels.filter (holdHas (localOffered s).ct.drivenLevels)
    = levels.filter fun l => s.ct.slots.any fun c => (c.holding || c.offered || s.offerable c) && c.level == l := by
  have cause : ∀ (c : Cause) (l : Level), (((if s.offerable c then { c with offered := true } else c).holding
      || (if s.offerable c then { c with offered := true } else c).offered)
      && (if s.offerable c then { c with offered := true } else c).level == l)
      = ((c.holding || c.offered || s.offerable c) && c.level == l) := fun c l => by
    rw [offer_holding]
    cases s.offerable c <;> simp
  rw [Ct.drivenLevels, levels_filter_holdOf, localOffered_slots]
  simp only [List.any_map, Function.comp_def, cause]

/-- The view after a Status decision shows the station's own values (R54, R108). -/
theorem localStatus_view : (localStatus s).ev.grade = s.da.pressure ∧ (localStatus s).ev.alarm = s.alarmDrive
    ∧ (localStatus s).ev.table.map (·.level)
      = levels.filter fun l => s.ct.slots.any fun c => (c.holding || c.offered || s.offerable c) && c.level == l := by
  obtain ⟨grade, alarm, table, -⟩ :=
    evStatus_ev (localOffered s) (localOffered s).localValues (localOffered s).localValues.hold none
  have refilled : (localRefilled s).ev = (localViewed s).ev := by
    simp only [localRefilled]
    split <;> simp
  have viewed : (localStatus s).ev = (localViewed s).ev := by
    rw [localStatus_eq]
    simp [localPowered, refilled]
  rw [viewed]
  exact ⟨grade, alarm, table.trans (localOffered_levels s)⟩

/-- What the stages of a Status decision do to the notice requests: nothing, until the PL hears of them. -/
theorem localPowered_notices :
    (localPowered s).pl.refill = s.pl.refill ∧ (localPowered s).pl.restore = s.pl.restore := by
  obtain ⟨w, -, -, -, -, -, -, vf, vs, -⟩ :=
    evStatus_raisesOnly (localOffered s) (localOffered s).localValues (localOffered s).localValues.hold none
  have judged : raisesOnly (localViewed s) (ctStatus none s.ev.alarm (localViewed s)) := ctStatus_raisesOnly _ _ _
  have refilled : raisesOnly (localViewed s) (localRefilled s) :=
    iteInduction (motive := raisesOnly (localViewed s)) (fun _ => raisesOnly_trans judged (refill_raisesOnly _))
      fun _ => judged
  have unfrozen : raisesOnly (localRefilled s) (unfreeze (localRefilled s)) := raisesOnly_of_eq rfl rfl rfl rfl
  obtain ⟨-, -, -, -, -, -, pf, ps, -⟩ :=
    raisesOnly_trans (raisesOnly_trans refilled unfrozen) (mpcStatus_raisesOnly s.pl.restore _)
  exact ⟨pf.trans vf, ps.trans vs⟩

/-- A Status decision carries both notice requests and keeps the round counter (R54, R192). -/
theorem localStatus_carries : (localStatus s).pl.refill = false ∧ (localStatus s).pl.restore = false
    ∧ (localStatus s).mc.counter = s.mc.counter := by
  obtain ⟨refill, restore⟩ := localPowered_notices s
  obtain ⟨mc, -⟩ := localStatus_wantsOnly s
  refine ⟨?_, ?_, by rw [mc]; rfl⟩
  · rw [localStatus_eq, State.withPl_pl, refill, Bool.and_not_self]
  · rw [localStatus_eq, State.withPl_pl, restore, Bool.and_not_self]

/-- A Refill that a Status decision carries clears what is spent (R167). -/
theorem localStatus_refills (h : s.pl.refill = true) : (localStatus s).da.spent = 0 := by
  have refilled : (localRefilled s).da.spent = 0 := by
    rw [localRefilled, if_pos h]
    exact (refill_balance _).1
  have powered := (mpcStatus_balance (unfreeze (localRefilled s)) s.pl.restore).1
  rw [localStatus_eq]
  exact powered.trans (by simpa using refilled)

end LocalStatus

/-! ### LOCAL_DECISION -/

section TakeDue

variable {s : State}

/-- A due Status decision, alone or with the Rest decision that waits behind it (R55, R109; log 16). -/
theorem takeDueDecisions_status (hl : s.isLocal = true) (hd : s.mc.decisionDue = true) : takeDueDecisions s
    = if s.mc.restDue then localRest ((localStatus s).withMc { (localStatus s).mc with restDue := false })
      else localStatus s := by
  have rest : (localStatus s).mc.restDue = s.mc.restDue := by
    obtain ⟨mc, -⟩ := localStatus_wantsOnly s
    rw [mc]
    rfl
  simp only [takeDueDecisions, hl, hd, if_true, rest]

/-- A due Rest decision alone (R56). -/
theorem takeDueDecisions_rest (hl : s.isLocal = true) (hd : s.mc.decisionDue = false) (hr : s.mc.restDue = true) :
    takeDueDecisions s = localRest (s.withMc { s.mc with restDue := false }) := by
  simp [takeDueDecisions, hl, hd, hr]

end TakeDue

/-- Settles O28: a Rest decision behind the Status decision keeps all that the statement says of the first but the table. -/
theorem localDecisionIsTheStationsOwn : Obligations.LocalDecisionIsTheStationsOwn := by
  intro s hr hl
  have decides : exec .localDecision s = .next (takeDueDecisions s) := gated_of_rstN s takeDueDecisions hr
  obtain ⟨lif, cu, pins, -, -, store, state⟩ := takeDueDecisions_frame s
  refine ⟨fun hd => ⟨_, decides, ?_⟩, fun hd hrest => ⟨_, decides, ?_⟩⟩
  · obtain ⟨grade, alarm, table⟩ := localStatus_view s
    obtain ⟨refill, restore, counter⟩ := localStatus_carries s
    have refills := localStatus_refills s
    have due := takeDueDecisions_status hl hd
    cases hrest : s.mc.restDue with
    | false =>
      simp only [hrest, Bool.false_eq_true, if_false] at due
      rw [due] at lif cu pins store state ⊢
      exact ⟨grade, alarm, counter, state, refill, restore, store, refills, lif, cu, pins, fun _ => table⟩
    | true =>
      simp only [hrest, if_true] at due
      generalize hu : (localStatus s).withMc _ = u at due
      have behind : u.ev = (localStatus s).ev ∧ u.pl = (localStatus s).pl ∧ u.da = (localStatus s).da
          ∧ u.mc.counter = (localStatus s).mc.counter := by
        subst hu
        exact ⟨rfl, rfl, rfl, rfl⟩
      obtain ⟨uev, upl, uda, ucounter⟩ := behind
      obtain ⟨rgrade, ralarm, -⟩ := localRest_view u
      obtain ⟨rrefill, rrestore, rspent, rcounter⟩ := localRest_keeps u
      rw [due] at lif cu pins store state ⊢
      rw [rgrade, ralarm, rrefill, rrestore, rspent, rcounter, uev, upl, uda, ucounter]
      exact ⟨grade, alarm, counter, state, refill, restore, store, refills, lif, cu, pins, nofun⟩
  · rw [takeDueDecisions_rest hl hd hrest] at lif cu pins ⊢
    obtain ⟨-, -, -, table, net⟩ := localRest_view (s.withMc { s.mc with restDue := false })
    obtain ⟨-, -, -, counter⟩ := localRest_keeps (s.withMc { s.mc with restDue := false })
    exact ⟨table, net, by simp, counter, lif, cu, pins⟩

end Sys2Proof.Machine

namespace Sys2Proof.Machine

/-! ## What Fix checks of each section (R52, R59, R113, R151, R153, R188, R200) -/

section Sections

/-- A relation between neighbouring grades above a lowest one, read off the list of the upper ones. -/
theorem neighbours_iff {P : Grade → Grade → Prop} {gs : List Grade} (low : Grade)
    (hgs : ∀ h : Grade, h ∈ gs ↔ low < h) :
    (∀ h ∈ gs, P (Fin.ofNat 8 (h.val - 1)) h) ↔ ∀ g h : Grade, low ≤ g → h.val = g.val + 1 → P g h := by
  constructor
  · intro holds g h hg next
    have below : Fin.ofNat 8 (h.val - 1) = g := Fin.ext (by simp [next])
    exact below ▸ holds h ((hgs h).2 (Fin.lt_def.2 (next ▸ Nat.lt_succ_of_le hg)))
  · intro holds h hh
    have above : low.val < h.val := (hgs h).1 hh
    have below : (Fin.ofNat 8 (h.val - 1)).val = h.val - 1 := Nat.mod_eq_of_lt (by omega)
    exact holds _ h (Fin.le_def.2 (by omega)) (by omega)

variable (c : Store)

theorem identityOk_iff : c.identityOk = true ↔ c.identitySound := by simp [Store.identityOk, Store.identitySound]

theorem profileOk_iff : c.profileOk = true ↔ c.profileSound := by
  have floors := neighbours_iff (P := fun g h => c.floorOf g ≤ c.floorOf h) (gs := levels) 0 (by decide)
  simp only [Fin.zero_le, forall_const] at floors
  simp only [Store.profileOk, Store.profileSound, Bool.and_eq_true, List.all_eq_true, decide_eq_true_eq, floors,
    and_assoc]

/-- A slot as Fix checks it: with a level it has a linger, a defined rails code and, for a wake timer, the Momentary mode
(R59, R200; log 19). -/
theorem slotOk_iff (i : Nat) : c.slotOk i = true ↔ (causeLevel (c.slotCause i) ≠ 0 → c.slotLinger i ≠ 0
    ∧ (c.slotRails i = 0 ∨ c.slotRails i = 1 ∨ c.slotRails i = 3)
    ∧ (i = 4 ∨ i = 5 → causeMode (c.slotCause i) = .momentary)) := by
  have mode : ∀ m : CauseMode, m ≠ .level ↔ m = .momentary := by intro m; cases m <;> decide
  simp only [Store.slotOk, railsDefined, Bool.or_eq_true, Bool.and_eq_true, Bool.not_eq_true', Bool.and_eq_false_iff,
    Bool.or_eq_false_iff, beq_iff_eq, beq_eq_false_iff_ne, bne_iff_ne, mode]
  tauto

theorem timerOk_iff (t : Nat) : c.timerOk t = true
    ↔ c.timerMode t = 0 ∨ c.timerMode t = 1 ∧ (1 ≤ c.timerCount t → c.timerReload t ≠ 0) := by
  simp only [Store.timerOk, Bool.or_eq_true, Bool.and_eq_true, Bool.not_eq_true', Bool.and_eq_false_iff, beq_iff_eq,
    beq_eq_false_iff_ne, decide_eq_false_iff_not]
  tauto

theorem causesOk_iff : c.causesOk = true ↔ c.causesSound := by
  have slots : [0, 1, 2, 3, 4, 5, 6] = List.range 7 := rfl
  have edges : [0, 1, 2, 3] = List.range 4 := rfl
  have timers : [0, 1] = List.range 2 := rfl
  simp only [Store.causesOk, Store.causesSound, slots, edges, timers, Bool.and_eq_true, List.all_eq_true,
    List.mem_range, slotOk_iff, timerOk_iff, bne_iff_ne, and_assoc]

/-- An attendance row as Fix checks it; that its upper level is not 0 follows (R113, R200). -/
theorem rowOk_iff (r : Row) : rowOk r = true ↔ r.low ≠ 0 ∧ r.low ≤ r.high ∧ (r.rails = 1 ∨ r.rails = 3) := by
  have upper : r.low ≠ 0 → r.low ≤ r.high → r.high ≠ 0 := fun h hle => (Fin.pos_of_ne_zero h |>.trans_le hle).ne'
  simp only [rowOk, Bool.and_eq_true, Bool.or_eq_true, bne_iff_ne, beq_iff_eq, decide_eq_true_eq]
  tauto

theorem attendanceOk_iff : c.attendanceOk = true ↔ c.attendanceSound := by
  have rows : c.rowCount ≤ 8 → c.rows = (List.range c.rowCount).map c.rowAt := fun few => by
    have all : [0, 1, 2, 3, 4, 5, 6, 7] = List.range 8 := rfl
    rw [Store.rows, all, List.take_range, min_eq_left few]
  simp only [Store.attendanceOk, Store.attendanceSound, Bool.and_eq_true, decide_eq_true_eq]
  refine and_congr_right fun few => ?_
  simp only [rows few, List.all_map, List.all_eq_true, List.mem_range, Function.comp_apply, rowOk_iff]

theorem moduleOk_iff : c.moduleOk = true ↔ c.moduleSound := by
  simp only [Store.moduleOk, Store.moduleSound, Bool.and_eq_true, decide_eq_true_eq]
  tauto

theorem drainOk_iff : c.drainOk = true ↔ c.drainSound := by
  have upper : ∀ h : Grade, h ∈ ([2, 3, 4, 5, 6, 7] : List Grade) ↔ 1 < h := by decide
  have balances := neighbours_iff (P := fun g h => c.balanceThreshold h ≤ c.balanceThreshold g) 1 upper
  have rates := neighbours_iff (P := fun g h => c.rateThreshold g ≤ c.rateThreshold h) 1 upper
  simp only [Store.drainOk, Store.drainSound, Bool.and_eq_true, List.all_eq_true, decide_eq_true_eq, balances, rates,
    and_assoc]

end Sections

/-! ## The grades after a recomputation (R162 to R164) -/

section Grades

variable (s : State)

theorem balanceGradeNow_congr {s t : State} (hs : t.settings = s.settings) (hd : t.da.spent = s.da.spent) :
    t.balanceGradeNow = s.balanceGradeNow := by
  rw [State.balanceGradeNow, State.balanceGradeNow, State.balance, State.balance, hs, hd]

theorem rateGradeNow_congr {s t : State} (hs : t.settings = s.settings) (hd : t.da.filtered = s.da.filtered)
    (hr : t.mpc.raila = s.mpc.raila) : t.rateGradeNow = s.rateGradeNow := by
  rw [State.rateGradeNow, State.rateGradeNow, hs, hd, hr]

/-- The grades recomputed are those that hold then, and what is spent and the sample phase stand (R164). -/
theorem recomputeGrades_grades : (recomputeGrades s).da.balanceGrade = s.balanceGradeNow
    ∧ (recomputeGrades s).da.rateGrade = s.rateGradeNow ∧ (recomputeGrades s).da.spent = s.da.spent
    ∧ (recomputeGrades s).da.filtered = s.da.filtered ∧ (recomputeGrades s).da.phase = s.da.phase := by
  rw [recomputeGrades_da]
  simp [regrade]

end Grades

/-! ## The configuration fixed (R41, R53, R59, R131, R141, R154, R188) -/

section Fixing

variable (s : State)

/-- The membership record first, and the entry to Joining. -/
def fixEntered : State :=
  enterJoining (s.withMc { s.mc with number := s.pl.store.stationNumber, digest := s.pl.store.digest })

/-- Then the causes, the battery timer and the sample phase. -/
def fixLoaded : State :=
  let t := loadCauses (fixEntered s)
  let t := t.withMu { t.mu with batteryTimer := some (t.settings.batteryInterval t.ev.net) }
  t.withDa { t.da with phase := if t.mpc.raila then some 0 else none }

theorem fixConfiguration_eq : fixConfiguration s = recomputeGrades (fixLoaded s) := rfl

theorem fixEntered_spec : (fixEntered s).mc = { s.mc with
      state := .joining, number := s.pl.store.stationNumber, digest := s.pl.store.digest, decisionDue := false
      restDue := false }
    ∧ (fixEntered s).mpc = { s.mpc with frozen := true } ∧ (fixEntered s).ev = .cold
    ∧ (fixEntered s).re.join.held = true ∧ (fixEntered s).re.voids = 0 := enterJoining_spec _

theorem fixEntered_seeks (h : s.lif.state = .silent) :
    (fixEntered s).lif.state = .seeking ∧ (fixEntered s).lif.idleRun = 0 := enterJoining_seeks (s.withMc _) h

/-- The station is fixed from the entry on, so the blocks load from the store (R188). -/
theorem fixEntered_settings : (fixEntered s).settings = s.pl.store := by
  rw [settings_of_fixed _ (by simp [State.fixed, fixEntered])]
  simp [fixEntered]

/-- What the blocks load from the store at Fix (R59, R141, R154). -/
theorem fixLoaded_spec (h : s.mpc.raila = true) : (fixLoaded s).ct.slots = s.pl.store.loadSlots
    ∧ (fixLoaded s).ct.timers = [s.pl.store.loadTimer 0, s.pl.store.loadTimer 1]
    ∧ (fixLoaded s).mu.batteryTimer = some (256 * s.pl.store.restBatteryCode)
    ∧ (fixLoaded s).da.phase = some 0 ∧ (fixLoaded s).da.spent = s.da.spent := by
  obtain ⟨-, mpc, ev, -⟩ := fixEntered_spec s
  have settings : (loadCauses (fixEntered s)).settings = s.pl.store :=
    (settings_congr _ _ (by simp) (by simp)).trans (fixEntered_settings s)
  have rail : (loadCauses (fixEntered s)).mpc.raila = true := by simpa [mpc] using h
  have view : (loadCauses (fixEntered s)).ev = .cold := by simp [ev]
  refine ⟨?_, ?_, ?_, if_pos rail, ?_⟩
  · rw [← fixEntered_settings s]
    rfl
  · rw [← fixEntered_settings s]
    rfl
  · simp only [fixLoaded, State.withDa_mu, State.withMu_mu, settings, view]
    rfl
  · simp [fixLoaded, fixEntered]

/-- The membership, the module, the view, the line and the Join want after Fix (R41, R131, R188). -/
theorem fixConfiguration_joins : (fixConfiguration s).mc.state = .joining
    ∧ (fixConfiguration s).mc.number = s.pl.store.stationNumber ∧ (fixConfiguration s).mc.digest = s.pl.store.digest
    ∧ (fixConfiguration s).mc.counter = s.mc.counter ∧ (fixConfiguration s).mpc = { s.mpc with frozen := true }
    ∧ (fixConfiguration s).ev = .cold ∧ (fixConfiguration s).lif = (fixEntered s).lif
    ∧ (fixConfiguration s).re.join.held = true ∧ (fixConfiguration s).re.voids = 0 := by
  obtain ⟨emc, empc, eev, held, voids⟩ := fixEntered_spec s
  obtain ⟨mc, re, -⟩ := recomputeGrades_wantsOnly (fixLoaded s)
  have loaded : (fixLoaded s).mc = (fixEntered s).mc ∧ (fixLoaded s).re = (fixEntered s).re := by simp [fixLoaded]
  rw [loaded.1, emc] at mc
  rw [loaded.2] at re
  rw [fixConfiguration_eq, mc, re]
  refine ⟨rfl, rfl, rfl, rfl, ?_, ?_, ?_, held, voids⟩
  · simp [fixLoaded, empc]
  · simp [fixLoaded, eev]
  · simp [fixLoaded]

theorem fixConfiguration_noticeFrame : noticeFrame s (fixConfiguration s) := by
  obtain ⟨-, -, -, -, store⟩ := recomputeGrades_wantsOnly (fixLoaded s)
  obtain ⟨-, -, -, -, -, -, refill, restore, -⟩ := recomputeGrades_raisesOnly (fixLoaded s)
  obtain ⟨erefill, erestore, estore⟩ := enterJoining_noticeFrame
    (s.withMc { s.mc with number := s.pl.store.stationNumber, digest := s.pl.store.digest })
  rw [noticeFrame, fixConfiguration_eq]
  exact ⟨refill.trans erefill, restore.trans erestore, store.trans estore⟩

/-- The grades after Fix are those that hold then (R164). -/
theorem fixConfiguration_grades : (fixConfiguration s).da.balanceGrade = (fixConfiguration s).balanceGradeNow
    ∧ (fixConfiguration s).da.rateGrade = (fixConfiguration s).rateGradeNow := by
  obtain ⟨balance, rate, spent, filtered, -⟩ := recomputeGrades_grades (fixLoaded s)
  have settings : (recomputeGrades (fixLoaded s)).settings = (fixLoaded s).settings :=
    settings_congr _ _ (by simp) (by simp)
  rw [fixConfiguration_eq, balance, rate]
  exact ⟨(balanceGradeNow_congr settings spent).symm, (rateGradeNow_congr settings filtered (by simp)).symm⟩

end Fixing

/-- Fix refused once the configuration is fixed (R188). -/
theorem fixAnswer_of_fixed {s : State} (hf : s.fixed = true) : fixAnswer s = ⟨s, statusWrong, []⟩ := if_pos hf

/-- Fix with a faulty section names it (R188). -/
theorem fixAnswer_of_faulty {s : State} (hf : s.fixed = false) (hc : s.pl.store.firstFaulty ≠ 0) :
    fixAnswer s = ⟨s, statusRange, [s.pl.store.firstFaulty]⟩ := by
  rw [fixAnswer, if_neg (by simp [hf]), if_neg hc]

/-- Fix with every section sound (R188). -/
theorem fixAnswer_of_sound {s : State} (hf : s.fixed = false) (hc : s.pl.store.firstFaulty = 0) :
    fixAnswer s = ⟨fixConfiguration s, statusDone, [0]⟩ := by
  rw [fixAnswer, if_neg (by simp [hf]), if_pos hc]

/-- The first faulty section in the order of R188 is named. -/
theorem firstFaulty_spec (c : Store) : (¬ c.identitySound → c.firstFaulty = 1)
    ∧ (c.identitySound → ¬ c.profileSound → c.firstFaulty = 2)
    ∧ (c.identitySound → c.profileSound → ¬ c.causesSound → c.firstFaulty = 3)
    ∧ (c.identitySound → c.profileSound → c.causesSound → ¬ c.attendanceSound → c.firstFaulty = 4)
    ∧ (c.identitySound → c.profileSound → c.causesSound → c.attendanceSound → ¬ c.moduleSound → c.firstFaulty = 5)
    ∧ (c.identitySound → c.profileSound → c.causesSound → c.attendanceSound → c.moduleSound → ¬ c.drainSound →
      c.firstFaulty = 6)
    ∧ (c.identitySound → c.profileSound → c.causesSound → c.attendanceSound → c.moduleSound → c.drainSound →
      c.firstFaulty = 0) := by
  simp only [← identityOk_iff, ← profileOk_iff, ← causesOk_iff, ← attendanceOk_iff, ← moduleOk_iff, ← drainOk_iff]
  refine ⟨?_, ?_, ?_, ?_, ?_, ?_, ?_⟩ <;> simp +contextual [Store.firstFaulty]

theorem withAnswer_balanceGradeNow (s : State) (a : Byte) (b : List Byte) :
    (s.withAnswer a b).balanceGradeNow = s.balanceGradeNow :=
  balanceGradeNow_congr (settings_congr _ _ (by simp) (by simp)) (by simp)

theorem withAnswer_rateGradeNow (s : State) (a : Byte) (b : List Byte) :
    (s.withAnswer a b).rateGradeNow = s.rateGradeNow :=
  rateGradeNow_congr (settings_congr _ _ (by simp) (by simp)) (by simp) (by simp)

theorem exec_fix (s : State) : exec .fix s = linkCommand fixAnswer s := rfl

/-- Settles O53. -/
theorem fixEntersJoining : Obligations.FixEntersJoining := by
  refine ⟨firstFaulty_spec, fun s hs => ?_⟩
  rw [exec_fix]
  refine ⟨fun hf => linkCommand_unmoved hs (fixAnswer_of_fixed hf),
    fun hf hc => linkCommand_unmoved hs (fixAnswer_of_faulty hf hc), fun hf hc => ?_⟩
  have raila := linkReady_raila s hs
  obtain ⟨state, number, digest, counter, mpc, ev, lif, held, voids⟩ := fixConfiguration_joins s
  obtain ⟨slots, timers, battery, phase, spent⟩ := fixLoaded_spec s raila
  obtain ⟨-, -, kspent, -, kphase⟩ := recomputeGrades_grades (fixLoaded s)
  obtain ⟨balance, rate⟩ := fixConfiguration_grades s
  obtain ⟨-, ct, -, -, mu, -⟩ := recomputeGrades_frame (fixLoaded s)
  obtain ⟨refill, restore, store⟩ := fixConfiguration_noticeFrame s
  rw [← fixConfiguration_eq] at ct mu kspent kphase
  have taken := linkCommand_answers (owner := fixAnswer) hs (by rw [fixAnswer_of_sound hf hc, mpc]; exact raila)
  rw [fixAnswer_of_sound hf hc] at taken
  refine ⟨_, taken, ?_⟩
  rw [withAnswer_balanceGradeNow, withAnswer_rateGradeNow]
  simp only [withAnswer_frame, withAnswer_pl, noticeFrame, changesOnly_iff]
  rw [lif, ct, mu, ev, kspent, kphase]
  exact ⟨rfl, store, state, number, digest, counter, held, voids, fixEntered_seeks s, slots, timers,
    mpc, rfl, battery, phase, balance, rate, spent, ⟨refill, restore, store⟩, by simp⟩

end Sys2Proof.Machine

namespace Sys2Proof.Machine

/-! ## The void bit at a winning joiner (R22, R26, R29, R43, R44) -/

section VoidBit

variable {s : State} {r : RoundRecord}

/-- The void bit leaves nothing to note of what was driven (R30, R88). -/
theorem noteDriven_void {q : RoundRecord} (h : q.current = .void) (s : State) : q.noteDriven s = q := by
  simp [RoundRecord.noteDriven, h]

/-- The void bit of a full participant without trouble: taken up and driven released (R22). -/
theorem bitBegin_void_untroubled (hr : s.re.record = some r) (hb : r.bit = 0) (hc : r.current = .void)
    (ha : r.abandoned = false) (hw : r.fullPart = true)
    (ht : (s.lif.framing || r.mismatch || r.invalid) = false) : bitBegin s = (setRecord (some { r with
      begun := true, drives := true, value := [false], lost := false, samples := [] }) s).withLif { s.lif with
        drive := false } := by
  have drive : segDrive s r = some [false] := by
    rw [segDrive, if_neg (by simp [ha]), hc]
    simp [RoundRecord.drivesVoid, hw, ht]
  have began : segBegin r s = setRecord (some { r with
      begun := true, drives := true, value := [false], lost := false, samples := [] }) s := by
    have unoffered : (r.current == .field .hold && r.rtype == some .status && r.role == .member && !r.abandoned)
        = false := by simp [hc]
    simp only [segBegin, unoffered, Bool.false_eq_true, if_false, drive]
    rw [noteDriven_void (by exact hc)]
    rfl
  simp [bitBegin, hr, hb, began, setRecord, RoundRecord.driveNow]

/-- The void bit followed by a full participant from its first period and sampled released: its round commits (R29, R34). -/
theorem runBit_void_commits (hs : s.lif.state = .round) (hp : s.lif.period = 0) (hr : s.re.record = some r)
    (hb : r.bit = 0) (hc : r.current = .void) (ha : r.abandoned = false) (hw : r.fullPart = true)
    (ht : (s.lif.framing || r.mismatch || r.invalid) = false) : ∃ l : Lif, runBit false s
      = commitRound (r.voidSampled false false) (atOutcome (r.voidSampled false false) l s) := by
  have began := bitBegin_void_untroubled hr hb hc ha hw ht
  have sampled : bitSample false (readFor false 5 (bitBegin s))
      = setRecord (some (r.voidSampled false false)) (readFor false 5 (bitBegin s)) := by
    rw [began]
    exact bitSample_void (r := { r with begun := true, drives := true, value := [false], lost := false, samples := [] })
      rfl hc (.inl rfl)
  have finished : runBit false s
      = bitEnd (readFor false 3 (setRecord (some (r.voidSampled false false)) (readFor false 5 (bitBegin s)))) := by
    rw [runBit_eq hs (by omega) (by simp), if_pos hp, hp, sampled]
    obtain ⟨round, first⟩ : (bitBegin s).lif.state = .round ∧ (bitBegin s).lif.period = 0 := by
      rw [bitBegin_lif]
      exact ⟨hs, hp⟩
    exact finishBit_in round (first ▸ Nat.zero_lt_succ 4) (by simp)
  rw [finished, bitEnd_void (r := r.voidSampled false false) rfl hc,
    endOfVoid_with_outcome (r := r.voidSampled false false) ha hw, began]
  exact ⟨_, rfl⟩

end VoidBit

/-! ### Admission (R43, R57, R96, R97) -/

section Admission

variable (s : State)

theorem evAdmit_wantsOnly (h : HoldMap) : wantsOnly s (evAdmit h s) := by
  have graded : wantsOnly s (s.withEv { s.ev with grade := s.da.pressure }) := wantsOnly_of_eq rfl rfl rfl
  have moved := wantsOnly_trans graded (setNet_wantsOnly (netAfterRest (h != 0)) _)
  refine wantsOnly_trans moved ?_
  simp only [evAdmit]
  exact wantsOnly_of_eq (by simp) (by simp) (by simp)

theorem ctAdmit_wantsOnly (h : HoldMap) : wantsOnly s (ctAdmit h s) :=
  wantsOnly_trans (wantsOnly_of_eq rfl rfl rfl)
    (iteInduction (motive := wantsOnly _) (fun _ => raiseStatus_wantsOnly _) fun _ => wantsOnly_refl _)

/-- The view at admission shows the levels of the Join round's hold map, each of them learned (R96). -/
theorem evAdmit_table (h : HoldMap) : (evAdmit h s).ev.table.map (·.level) = levels.filter (holdHas h)
    ∧ ∀ x ∈ (evAdmit h s).ev.table, x.learned = true := by
  have taken : (evAdmit h s).ev.table = resuspend (tableFor h (learnedEntry s.settings) []) := by
    simp only [evAdmit, setTable_ev]
  rw [taken]
  constructor
  · rw [← tableFor_levels h (fresh := learnedEntry s.settings) (fun _ => rfl) []]
    simp [resuspend, Function.comp_def]
  · simp only [resuspend, tableFor, List.map_map, List.mem_map, List.find?_nil]
    rintro _ ⟨l, -, rfl⟩
    rfl

/-- An evaluation of need leaves the freeze as it is (R115, R131). -/
theorem evaluateNeed_frozen : (evaluateNeed s).mpc.frozen = s.mpc.frozen := by
  simp only [evaluateNeed]
  split
  · rfl
  · split
    · split <;> simp [recordNeed, enterPowering, Mpc.moveTo]
    · simp [recordNeed]
    · simp only [evaluateOn]
      split <;> simp [enterParking, Mpc.moveTo]
    · split <;> simp [recordNeed, cancelPark, Mpc.moveTo]
    · split <;> simp [recordNeed, overrideCut, enterPowering, Mpc.moveTo]

/-- The station as it is recorded at its admission, before the owners hear of it (R43). -/
def admitted (count : Half) : State :=
  (s.withRe { s.re with join := .clear, voids := 0 }).withMc { s.mc with
    state := .member, counter := count + 1, lastFault := none, rejoin := none, disagreement := false
    decisionDue := false, restDue := false }

/-- Then its Status want, the view and the causes, and the end of the freeze (R43, R80, R96, R131). -/
def admittedView (count : Half) (hold : HoldMap) : State :=
  unfreeze (ctAdmit hold (evAdmit hold (raiseStatus (admitted s count))))

/-- Last the module is evaluated and the census is held off (R172). -/
theorem admitStation_eq (count : Half) (hold : HoldMap) : admitStation count hold s
    = (evaluateNeed (admittedView s count hold)).withCu
      { (evaluateNeed (admittedView s count hold)).cu with holdOff := Config.twoSeconds } := rfl

theorem admittedView_wantsOnly (count : Half) (hold : HoldMap) :
    wantsOnly (raiseStatus (admitted s count)) (admittedView s count hold) :=
  wantsOnly_trans (wantsOnly_trans (evAdmit_wantsOnly _ hold) (ctAdmit_wantsOnly _ hold))
    (wantsOnly_of_eq (by simp [admittedView]) (by simp [admittedView]) (by simp [admittedView]))

/-- The records of an admitted station: a Member at the network's count, its Status want held and no Join want (R43). -/
theorem admitStation_member (count : Half) (hold : HoldMap) : (admitStation count hold s).mc.state = .member
    ∧ (admitStation count hold s).mc.counter = count + 1 ∧ (admitStation count hold s).mc.lastFault = none
    ∧ (admitStation count hold s).mc.rejoin = none ∧ (admitStation count hold s).re.join.held = false
    ∧ (admitStation count hold s).re.voids = 0 ∧ (admitStation count hold s).re.status.held = true := by
  have evaluated := wantsOnly_trans (admittedView_wantsOnly s count hold) (evaluateNeed_wantsOnly _)
  obtain ⟨mc, re, -⟩ := wantsOnly_trans (raiseStatus_wantsOnly (admitted s count)) evaluated
  obtain ⟨-, -, -, status, -⟩ := evaluated
  have held := status (raiseStatus_held (admitted s count) rfl)
  rw [admitStation_eq, State.withCu_mc, State.withCu_re, mc, re]
  exact ⟨rfl, rfl, rfl, rfl, rfl, rfl, held⟩

/-- The blocks of an admitted station: the network's levels, the module free and the census held off (R96, R131, R172). -/
theorem admitStation_blocks (count : Half) (hold : HoldMap) :
    (admitStation count hold s).ev.table.map (·.level) = levels.filter (holdHas hold)
    ∧ (∀ x ∈ (admitStation count hold s).ev.table, x.learned = true)
    ∧ (admitStation count hold s).mpc.frozen = false ∧ (admitStation count hold s).cu.holdOff = 128 := by
  obtain ⟨table, learned⟩ := evAdmit_table (raiseStatus (admitted s count)) hold
  have view : (admitStation count hold s).ev = (evAdmit hold (raiseStatus (admitted s count))).ev := by
    rw [admitStation_eq]
    simp [admittedView]
  have free : (admittedView s count hold).mpc.frozen = false := rfl
  rw [view, admitStation_eq, State.withCu_mpc, State.withCu_cu, evaluateNeed_frozen]
  exact ⟨table, learned, free, rfl⟩

end Admission

/-! ### Refusal (R44) -/

section Refusal

variable (s : State)

/-- A change of the disagreement flag moves the flag, and what a Status want moves (R46). -/
theorem setDisagreement_wantsOnly (b : Bool) :
    wantsOnly (s.withMc { s.mc with disagreement := b }) (setDisagreement b s) := by
  simp only [setDisagreement]
  split
  next same => exact wantsOnly_of_eq (by simp [← same]) rfl rfl
  next => exact raiseStatus_wantsOnly _

/-- The station as it is recorded at its refusal: Isolated and Silent with the reason (R44). -/
def refused (f : LineFault) : State :=
  ((s.withRe { s.re with join := .clear, voids := 0, record := none }).withMc { s.mc with
    state := .isolated, lastFault := some f, rejoin := none }).withLif { s.lif with
    state := .silent, drive := false, idleRun := 0, assertedRun := 0 }

/-- Then the disagreement flag is judged, and a station that was Joining enters local mode (R46, R54). -/
def refusedLocal (f : LineFault) (b : Bool) : State :=
  if s.isLocal then setDisagreement b (refused s f) else enterLocal (setDisagreement b (refused s f))

theorem refuse_eq (f : LineFault) (b : Bool) : refuse f b s = raiseEvent .isolated (refusedLocal s f b) := rfl

/-- The records of a refused station: the reason, the Join want gone, and the round counter as it was (R44). -/
theorem refuse_records (f : LineFault) (b : Bool) : (refuse f b s).mc.lastFault = some f
    ∧ (refuse f b s).mc.counter = s.mc.counter ∧ (refuse f b s).re.join.held = false ∧ (refuse f b s).re.voids = 0
    ∧ (refuse f b s).eventSet .isolated = true := by
  obtain ⟨mc, re, -⟩ := setDisagreement_wantsOnly (refused s f) b
  have records : (refusedLocal s f b).mc.lastFault = some f ∧ (refusedLocal s f b).mc.counter = s.mc.counter
      ∧ (refusedLocal s f b).re.join.held = false ∧ (refusedLocal s f b).re.voids = 0 := by
    simp only [refusedLocal]
    split
    · rw [mc, re]
      exact ⟨rfl, rfl, rfl, rfl⟩
    · simp only [enterLocal_keeps]
      rw [mc, re]
      exact ⟨rfl, rfl, rfl, rfl⟩
  obtain ⟨fault, counter, join, voids⟩ := records
  rw [refuse_eq, eventSet_raiseEvent]
  simp only [raiseEvent_frame]
  exact ⟨fault, counter, join, voids, by simp⟩

end Refusal

/-! ### ROUND that judges the station's own join (R42 to R44) -/

/-- The three conditions of R43 admit the winning joiner. -/
theorem judgeJoin_admits {s : State} {max min count : Half} {hold : HoldMap} {claim : Nat}
    (h : claim = 0 ∧ max = s.mc.digest ∧ min = s.mc.digest) :
    judgeJoin (claim != 0) max min count hold s = admitStation count hold s := by
  obtain ⟨unclaimed, digests⟩ := h
  rw [judgeJoin, if_neg (by simp [unclaimed]), if_pos digests]

/-- A condition that fails refuses it, a claimed number first (R44). -/
theorem judgeJoin_refuses {s : State} {max min count : Half} {hold : HoldMap} {claim : Nat}
    (h : ¬ (claim = 0 ∧ max = s.mc.digest ∧ min = s.mc.digest)) : judgeJoin (claim != 0) max min count hold s
      = refuse (if claim = 0 then .profile else .duplicate) (max != min) s := by
  by_cases unclaimed : claim = 0
  · rw [judgeJoin, if_neg (by simp [unclaimed]), if_neg fun digests => h ⟨unclaimed, digests⟩, if_pos unclaimed]
  · rw [judgeJoin, if_pos (by simpa using unclaimed), if_neg unclaimed]

/-- Settles O25. -/
theorem joinRoundAdmitsOrRefuses : Obligations.JoinRoundAdmitsOrRefuses := by
  intro s r n hrst _ hs hp hf hrec hrole hy hw hc hb hmis hinv hab
  have full : r.fullPart = true := by simp [RoundRecord.fullPart, hy, hw]
  obtain ⟨l, run⟩ := runBit_void_commits hs hp hrec hb hc hab full (by simp [hf, hmis, hinv])
  generalize hq : r.voidSampled false false = q at run
  generalize hbase : (atOutcome q l s).withRe { (atOutcome q l s).re with voids := 0 } = b
  have qrole : q.role ≠ .member := by simp [← hq, RoundRecord.voidSampled, hrole]
  have qy : q.rtype = some .join := hq ▸ hy
  have result : q.result = r.result := hq ▸ rfl
  have digest : b.mc.digest = s.mc.digest := hbase ▸ rfl
  have counter : b.mc.counter = s.mc.counter := hbase ▸ rfl
  have closing : b.lif = { l.leave .closing with idleRun := 0 } := hbase ▸ rfl
  have judged : runBit false s = judgeJoin (r.result .claim != 0) (BitVec.ofNat 16 (r.result .digestMax))
      (BitVec.ofNat 16 (r.result .digestMin)) (BitVec.ofNat 16 (r.result .count)) (BitVec.ofNat 7 (r.result .hold)) b := by
    rw [run]
    simp only [commitRound, qy, commitJoin, if_neg qrole, result, hbase]
  have ends := exec_round_one_bit (x := false) n true hrst hs (by omega)
  rw [if_pos rfl, judged] at ends
  simp only [← digest, ← counter]
  by_cases h : r.result .claim = 0 ∧ BitVec.ofNat 16 (r.result .digestMax) = b.mc.digest
      ∧ BitVec.ofNat 16 (r.result .digestMin) = b.mc.digest
  · rw [judgeJoin_admits h] at ends
    obtain ⟨state, count, fault, rejoin, join, voids, status⟩ :=
      admitStation_member b (BitVec.ofNat 16 (r.result .count)) (BitVec.ofNat 7 (r.result .hold))
    obtain ⟨table, learned, frozen, holdOff⟩ :=
      admitStation_blocks b (BitVec.ofNat 16 (r.result .count)) (BitVec.ofNat 7 (r.result .hold))
    have line : (admitStation (BitVec.ofNat 16 (r.result .count)) (BitVec.ofNat 7 (r.result .hold)) b).lif
        = { l.leave .closing with idleRun := 0 } := by simp [closing]
    generalize admitStation _ _ b = t at *
    rw [closeRound_closing (s := roundPins t) (by simp [roundPins, line, Lif.leave])] at ends
    refine ⟨_, ends, ?_, rfl, join, voids, fun _ => ⟨state, rfl, status, count, fault, rejoin, table, learned, frozen,
      holdOff⟩, fun refuses => absurd h refuses⟩
    simp [roundPins, line, Lif.leave]
  · rw [judgeJoin_refuses h] at ends
    generalize hfault : (if r.result .claim = 0 then LineFault.profile else .duplicate) = f at *
    generalize (BitVec.ofNat 16 (r.result .digestMax) != BitVec.ofNat 16 (r.result .digestMin)) = d at ends
    obtain ⟨state, line⟩ := refuse_spec f d b
    obtain ⟨fault, count, join, voids, event⟩ := refuse_records b f d
    have record := refuse_record b f d
    generalize refuse f d b = t at *
    have silent : closeRound (roundPins t) = roundPins t :=
      (closeRound_spec (roundPins t)).1 (by simp [roundPins, line])
    rw [silent] at ends
    refine ⟨_, ends, ?_, record, join, voids, fun admits => absurd admits h, fun _ => ⟨state, ?_, count, fault, event⟩⟩
    · simp [roundPins, line]
    · simp [roundPins, line]

end Sys2Proof.Machine

namespace Sys2Proof.Machine

/-! ## What the line and the RE keep when the owners do

The LIF and the RE reach the other blocks in four ways: the CT offers at the Status hold map (R73), a line fault is
reported (R47 to R50), and an outcome is delivered as a commit or as a void (R34, R35). So a property that speaks of
neither the LIF nor the RE nor the pins, and that these keep, is kept by all that the line does. -/

/-- The property speaks of neither the LIF nor the RE nor the pins, and what a round makes the owners do keeps it. -/
structure OwnersKeep (P : State → Prop) : Prop where
  lif : ∀ {s} (x : Lif), P s → P (s.withLif x)
  re : ∀ {s} (x : Re), P s → P (s.withRe x)
  pins : ∀ {s} (x : Pins), P s → P (s.withPins x)
  offers : ∀ {s}, P s → P (offerCauses s)
  fault : ∀ {s} (f : LineFault), P s → P (reportFault f s)
  returns : ∀ {s}, P s → P (returnOffers s)
  commit : ∀ {s} (r : RoundRecord), P s → P (commitRound r s)

namespace OwnersKeep

variable {P : State → Prop} {s : State} (keeps : OwnersKeep P)

include keeps

theorem setRecord (r : Option RoundRecord) (h : P s) : P (setRecord r s) := keeps.re _ h

theorem abandonRound (h : P s) : P (abandonRound s) := keeps.re _ h

theorem lostSync (h : P s) : P (lostSync s) := keeps.fault _ (keeps.abandonRound (keeps.lif _ h))

theorem driveFault (h : P s) : P (driveFault s) := keeps.fault _ (keeps.re _ (keeps.lif _ h))

theorem stuckLineFound (h : P s) : P (stuckLineFound s) :=
  iteInduction (fun _ => h) fun _ => keeps.fault _ (keeps.abandonRound (keeps.lif _ h))

theorem pulseDriveFault (h : P s) : P (pulseDriveFault s) := keeps.fault _ (keeps.abandonRound (keeps.lif _ h))

/-! ### A round bit -/

theorem bitBegin (h : P s) : P (bitBegin s) := by
  have begun : ∀ r, P (segBegin r s) := fun r =>
    keeps.setRecord _ (iteInduction (fun _ => keeps.offers h) fun _ => h)
  refine keeps.lif _ ?_
  split
  · exact iteInduction (fun _ => begun _) fun _ => h
  · exact h

theorem bitSample (x : Bool) (h : P s) : P (bitSample x s) := by
  have taken : ∀ r, P (Machine.setRecord r s) := fun r => keeps.setRecord r h
  simp only [Machine.bitSample]
  split
  · exact h
  · split
    · exact iteInduction (fun _ => keeps.lostSync h) fun _ => taken _
    · exact iteInduction (fun _ => iteInduction (fun _ => keeps.lostSync h) fun _ => keeps.setRecord _ (keeps.lif _ h))
        fun _ => taken _
    all_goals exact iteInduction (fun _ => keeps.driveFault (taken _)) fun _ => taken _

theorem closeRound (h : P s) : P (closeRound s) :=
  iteInduction (fun _ => keeps.setRecord _ (keeps.lif _ h)) fun _ => h

theorem voidRound (h : P s) : P (voidRound s) := by
  have returned : P (returnOffers (s.withRe s.re.clearMarks)) := keeps.returns (keeps.re _ h)
  exact iteInduction (fun _ => keeps.re _ returned) fun _ => keeps.fault _ (keeps.re _ returned)

theorem endOfVoid (r : RoundRecord) (h : P s) : P (endOfVoid r s) := by
  have ended : ∀ l x, P ((s.withLif l).withRe x) := fun l x => keeps.re x (keeps.lif l h)
  exact iteInduction (fun _ => keeps.closeRound (ended _ _)) fun _ =>
    iteInduction (fun _ => keeps.voidRound (ended _ _)) fun _ => keeps.commit r (ended _ _)

theorem bitEnd (h : P s) : P (bitEnd s) := by
  simp only [Machine.bitEnd]
  split
  · exact h
  · have passed : P (s.withLif { s.lif with bitPos := s.lif.bitPos + 1, period := 0 }) := keeps.lif _ h
    refine iteInduction (fun _ => keeps.setRecord _ passed) fun _ => ?_
    split
    · exact keeps.endOfVoid _ passed
    · exact iteInduction (fun _ => keeps.re _ (keeps.lif _ passed)) fun _ => keeps.setRecord _ passed
    all_goals exact keeps.setRecord _ passed

theorem watchBit (x : Bool) (n : Nat) (h : P s) : P (watchBit x n s) :=
  iteInduction (fun _ => keeps.stuckLineFound (keeps.lif _ h)) fun _ => keeps.lif _ h

theorem finishBit (x : Bool) (h : P s) : P (finishBit x s) :=
  iteInduction (fun _ => iteInduction (fun _ => keeps.bitEnd (keeps.watchBit _ _ h)) fun _ => keeps.watchBit _ _ h)
    fun _ => h

theorem runBit (x : Bool) (h : P s) : P (runBit x s) := by
  have begun : P (if s.lif.period = 0 then Machine.bitBegin s else s) :=
    iteInduction (fun _ => keeps.bitBegin h) fun _ => h
  refine iteInduction (fun _ => iteInduction (fun _ => ?_) fun _ => keeps.watchBit _ _ begun) fun _ => h
  exact keeps.finishBit _ (keeps.bitSample _ (keeps.watchBit _ _ begun))

/-! ### The pulse and ROUND -/

theorem releaseEdge (n : Nat) (h : P s) : P (releaseEdge n s) :=
  iteInduction (fun _ => keeps.stuckLineFound h) fun _ => keeps.lif _ (keeps.bitBegin (keeps.lif _ h))

theorem pulseEnds (n : Nat) (h : P s) : P (pulseEnds n s) :=
  iteInduction (fun _ => keeps.pulseDriveFault h) fun _ => iteInduction (fun _ => keeps.releaseEdge _ h) fun _ =>
    keeps.re _ (keeps.lif _ h)

theorem followRound (n : Nat) (xs : List Bool) (h : P s) : P (followRound n xs s) := by
  have edge : P (if s.lif.state = .pulse ∧ s.re.record.isSome then Machine.pulseEnds (max n s.lif.stretch) s else s) :=
    iteInduction (fun _ => keeps.pulseEnds _ h) fun _ => h
  exact runBits_induct _ P (fun x _ => keeps.runBit x) xs
    (iteInduction (fun _ => keeps.finishBit _ edge) fun _ => edge)

theorem roundEffect (n : Nat) (xs : List Bool) (b : Bool) (h : P s) : P (roundEffect n xs b s) := by
  have followed := fun p => keeps.pins p (keeps.followRound n xs h)
  exact iteInduction (fun _ => keeps.closeRound (followed _)) fun _ => followed _

theorem startRequest (f : Option (Fin 6)) (h : P s) : P (startRequest f s) := by
  have begun : ∀ t, P (pulseBegins t s) := fun t => keeps.re _ (keeps.lif _ h)
  simp only [Machine.startRequest]
  split
  · refine iteInduction (fun _ => ?_) fun _ => h
    split
    · exact begun _
    · exact keeps.pulseDriveFault (begun _)
  · exact h

theorem startIsAccepted (h : P s) : P (startIsAccepted s) := keeps.setRecord _ (keeps.lif _ h)

theorem stretchReaches (h : P s) : P (stretchReaches s) := by
  simp only [Machine.stretchReaches]
  split
  · exact iteInduction (fun _ => keeps.startIsAccepted h) fun _ => h
  · exact keeps.startIsAccepted (keeps.lif _ h)
  · exact keeps.lostSync (keeps.lif _ h)
  all_goals exact h

/-! ### The period watch -/

theorem assertedReading (h : P s) : P (assertedReading s) :=
  iteInduction (fun _ => keeps.stuckLineFound (keeps.lif _ h)) fun _ => keeps.lif _ h

theorem stretchGrows (h : P s) : P (stretchGrows s) :=
  iteInduction (fun _ => keeps.stuckLineFound (keeps.lif _ h)) fun _ =>
    iteInduction (fun _ => keeps.startIsAccepted (keeps.lif _ h)) fun _ => keeps.lif _ h

theorem watchRound (x : Bool) (h : P s) : P (watchRound x s) := by
  have watched := keeps.watchBit x 1 h
  have sampled : ∀ v, P v → P (if v.lif.period = Config.samplePeriodOfBit then Machine.bitSample x v else v) :=
    fun _ hv => iteInduction (fun _ => keeps.bitSample x hv) fun _ => hv
  have passed := sampled _ (keeps.lif
    { (Machine.watchBit x 1 s).lif with period := (Machine.watchBit x 1 s).lif.period + 1 } watched)
  exact iteInduction (fun _ => iteInduction (fun _ => keeps.bitEnd passed) fun _ => passed) fun _ => watched

theorem watchClosing (x : Bool) (h : P s) : P (watchClosing x s) := by
  have read : ∀ l, P (Machine.assertedReading (s.withLif l)) := fun l => keeps.assertedReading (keeps.lif l h)
  exact iteInduction (fun _ => iteInduction (fun _ => keeps.lostSync (read _)) fun _ => read _) fun _ => keeps.lif _ h

theorem watchLine (x : Bool) (h : P s) : P (watchLine x s) := by
  have asserted := keeps.assertedReading h
  have released : P (releasedReading s) := keeps.lif _ h
  simp only [Machine.watchLine]
  split
  · exact h
  · exact iteInduction (fun _ => asserted) fun _ => iteInduction (fun _ => keeps.lif _ released) fun _ => released
  · exact iteInduction (fun _ => iteInduction (fun _ => keeps.lif _ h) fun _ => asserted) fun _ => released
  · exact iteInduction (fun _ => keeps.stretchGrows h) fun _ => keeps.pulseEnds _ h
  · exact keeps.watchRound x h
  · exact keeps.watchClosing x h
  · exact iteInduction (fun _ => asserted) fun _ => keeps.lif _ h

theorem driveForPeriod (h : P s) : P (driveForPeriod s) := by
  simp only [Machine.driveForPeriod]
  split
  · exact keeps.lif _ h
  · exact iteInduction (fun _ => keeps.bitBegin h) fun _ => h
  all_goals exact h

/-! ### The period and the commands of the line -/

/-- A period keeps the property when the decisions, the counts and the sense samples do. -/
theorem slowPeriod (time : P (s.withTime (s.time + 1)))
    (counts : ∀ f ∈ periodCounts ++ tickCounts, ∀ t, P t → P (f t))
    (decisions : ∀ t, P t → P (takeDueDecisions t)) (sense : ∀ k t, P t → P (sampleSense k t))
    (clock : ∀ t, P t → P (stopIdleClock t) ∧ P (startOnDemand t)) : P (slowPeriod s) := by
  refine slowPeriod_induct s P (fun due f hf t ht => ?_) time
  simp only [periodBegins, periodEnds, List.cons_append, List.mem_append, List.mem_cons, List.not_mem_nil,
    or_false] at hf
  rcases hf with rfl | ((hf | rfl | rfl | rfl) | hf) | rfl | rfl | rfl | rfl | rfl | rfl | rfl
  · exact keeps.closeRound ht
  · exact counts f (List.mem_append_left _ hf) t ht
  · exact iteInduction (fun _ => decisions t ht) fun _ => ht
  · exact iteInduction (fun _ => keeps.startRequest _ ht) fun _ => ht
  · exact keeps.driveForPeriod ht
  · exact counts f (List.mem_append_right _ hf) t ht
  · exact keeps.watchLine _ ht
  · exact sense 0 t ht
  · exact sense 1 t ht
  · exact sense 2 t ht
  · exact sense 3 t ht
  · exact (clock t ht).1
  · exact (clock t ht).2

end OwnersKeep

/-- The commands of the wake line: what the station reads or asks for on it. -/
def lineCommand : Instr → Bool
  | .seekingEnd | .startRequest _ | .startPulseSeen | .startAccepted | .glitch | .round _ _ _ | .stuckLine
  | .stuckLineCleared | .assertedPeriodWatchReading => true
  | _ => false

/-- Every command of the wake line keeps what the owners keep. -/
theorem OwnersKeep.exec_lineCommand {P : State → Prop} {c : Instr} {s t : State} (keeps : OwnersKeep P)
    (hc : lineCommand c = true) (h : P s) (he : exec c s = .next t) : P t := by
  have kept : ∀ {f : State → State}, gated s f = .next t → P (f s) → P t := fun he hf => gated_keeps he h fun _ => hf
  have peers : ∀ {b : Bool} {u : State}, P u → P (setWakePeers b u) := fun hu => keeps.pins _ hu
  cases c with
  | seekingEnd => exact kept he (iteInduction (fun _ => peers (keeps.lif _ h)) fun _ => h)
  | startRequest f => exact kept he (keeps.startRequest f h)
  | startPulseSeen => exact kept he (iteInduction (fun _ => peers (keeps.lif _ h)) fun _ => h)
  | startAccepted => exact kept he (keeps.stretchReaches h)
  | glitch => exact kept he (iteInduction (fun _ => peers (keeps.pulseEnds _ h)) fun _ => h)
  | round n xs b => exact kept he (iteInduction (fun _ => keeps.roundEffect n xs b h) fun _ => h)
  | stuckLine =>
    simp only [exec, execStuckLine] at he
    exact kept he (iteInduction (fun _ => h) fun _ => peers (keeps.stuckLineFound h))
  | stuckLineCleared => exact kept he (iteInduction (fun _ => peers (keeps.lif _ h)) fun _ => h)
  | assertedPeriodWatchReading =>
    simp only [exec, execAssertedPeriodWatchReading] at he
    exact kept he (keeps.watchLine _ (keeps.driveForPeriod h))
  | _ => exact absurd hc (by simp [lineCommand])

end Sys2Proof.Machine

namespace Sys2Proof.Machine

/-! ## The cause table in order (R58, R73) -/

theorem Cause.ok_iff (c : Cause) :
    c.ok = true ↔ (c.state = .disabled ↔ c.level = 0) ∧ (c.offered = true → c.state = .pending) := by
  rw [Cause.ok, Bool.and_eq_true, beq_iff_eq, Bool.eq_iff_iff, beq_iff_eq, beq_iff_eq]
  cases c.offered <;> simp

theorem disabled_ok : Cause.disabled.ok = true := rfl

/-- A cause that is not Disabled stays in order while its level stands, it does not become Disabled, and it is offered
only as a Pending one. -/
theorem Cause.ok_of_enabled {c d : Cause} (h : c.ok = true) (hc : c.state ≠ .disabled) (hl : d.level = c.level)
    (hd : d.state ≠ .disabled) (ho : d.offered = true → d.state = .pending) : d.ok = true := by
  have level : c.level ≠ 0 := fun hz => hc (((Cause.ok_iff c).1 h).1.2 hz)
  exact (Cause.ok_iff d).2 ⟨iff_of_false hd (hl ▸ level), ho⟩

/-- What is recorded of a cause besides its level, its state and its offer does not matter. -/
theorem Cause.ok_congr {c d : Cause} (h : c.ok = true) (hl : d.level = c.level) (hs : d.state = c.state)
    (ho : d.offered = c.offered) : d.ok = true := by simpa only [Cause.ok, hl, hs, ho] using h

theorem toIdle_ok {c : Cause} (h : c.ok = true) (hc : c.state ≠ .disabled) : c.toIdle.ok = true :=
  Cause.ok_of_enabled h hc rfl nofun nofun

theorem toPending_ok {c : Cause} (h : c.ok = true) (hc : c.state ≠ .disabled) : c.toPending.ok = true :=
  Cause.ok_of_enabled h hc rfl nofun nofun

/-- Only a Pending cause is offered, so one in another state is not. -/
theorem Cause.not_offered_of_ok {c : Cause} (h : c.ok = true) (hc : c.state ≠ .pending) : c.offered = false := by
  have pending := ((Cause.ok_iff c).1 h).2
  exact Bool.eq_false_iff.2 fun ho => hc (pending ho)

theorem Cause.enabled_of_offered {c : Cause} (h : c.ok = true) (ho : c.offered = true) : c.state ≠ .disabled := by
  rw [((Cause.ok_iff c).1 h).2 ho]
  nofun

theorem Cause.enabled_of_holding {c : Cause} (hc : c.holding = true) : c.state ≠ .disabled := by
  intro hs
  simp [Cause.holding, hs] at hc

theorem accepted_ok {c : Cause} (o : Option Half) (b : Bool) (h : c.ok = true) : (c.accepted o b).ok = true := by
  refine iteInduction (motive := fun c : Cause => c.ok = true) (fun ho => ?_) fun _ => h
  obtain ⟨holds, level, offered, -⟩ := accept_spec c o b
  exact Cause.ok_of_enabled h (Cause.enabled_of_offered h ho) level (Cause.enabled_of_holding holds)
    fun hx => absurd hx (by simp [offered])

theorem curtailedAt_ok {c : Cause} (l : Level) (h : c.ok = true) : (c.curtailedAt l).ok = true :=
  iteInduction (motive := fun c : Cause => c.ok = true)
    (fun hc => toIdle_ok h (Cause.enabled_of_holding (Bool.and_eq_true_iff.1 hc).1)) fun _ => h

theorem unoffer_ok {c : Cause} (h : c.ok = true) : c.unoffer.ok = true := by
  refine iteInduction (motive := fun c : Cause => c.ok = true) (fun ho => ?_) fun _ => h
  have enabled := Cause.enabled_of_offered h ho
  exact iteInduction (motive := fun c : Cause => c.ok = true) (fun _ => toIdle_ok h enabled) fun _ =>
    Cause.ok_of_enabled h enabled rfl enabled nofun

/-- A holding cause that follows its source goes on holding (R70). -/
theorem follow_ok {c : Cause} (b : Bool) (h : c.ok = true) : (c.follow b).ok = true := by
  simp only [Cause.follow]
  split
  · split
    next hs =>
      exact Cause.ok_of_enabled h (by simp [hs]) rfl nofun (by simp [Cause.toLingering, Cause.not_offered_of_ok h, hs])
    next hs => exact Cause.ok_of_enabled h (by simp [hs]) rfl nofun (by simp [Cause.not_offered_of_ok h, hs])
    · exact h
  · exact h

/-- A slot as the configuration gives it is Disabled exactly at level 0 (R59). -/
theorem slotEntry_ok (c : Store) (i : Nat) : (c.slotEntry i).ok = true := by
  simp only [Cause.ok_iff, Store.slotEntry, Cause.disabled]
  split <;> simp_all

theorem postedEntry_ok {b : Byte} (l p r : Byte) (h : causeLevel b ≠ 0) : (postedEntry b l p r).ok = true := by
  simp [Cause.ok_iff, postedEntry, h, Cause.disabled]

theorem loadSlots_ok (c : Store) : c.loadSlots.length = 16 ∧ ∀ x ∈ c.loadSlots, x.ok = true := by
  refine ⟨rfl, fun x hx => ?_⟩
  rw [Store.loadSlots, List.mem_append, List.mem_map, List.mem_replicate] at hx
  rcases hx with ⟨i, -, rfl⟩ | ⟨-, rfl⟩
  · exact slotEntry_ok c i
  · exact disabled_ok

section Causes

variable {s t : State}

/-- The invariant speaks of the slots alone. -/
theorem causesInv_congr (h : s.causesInv) (hx : t.ct.slots = s.ct.slots) : t.causesInv := by
  simpa only [State.causesInv, hx] using h

theorem causesInv_of_ct (h : s.causesInv) (hx : t.ct = s.ct) : t.causesInv := causesInv_congr h (by rw [hx])

theorem State.causesInv.slot (h : s.causesInv) (i : Nat) : (s.slot i).ok = true := by
  simp only [State.slot, List.getD_eq_getElem?_getD]
  cases hi : s.ct.slots[i]? with
  | none => exact disabled_ok
  | some c => exact h.2 c (List.mem_of_getElem? hi)

theorem setSlot_causesInv {i : Nat} {c : Cause} (h : s.causesInv) (hc : c.ok = true) : (setSlot i c s).causesInv :=
  ⟨by simpa [setSlot] using h.1, fun _ hd => (List.mem_or_eq_of_mem_set hd).elim (h.2 _) fun e => e ▸ hc⟩

theorem causesInv_map {f : Cause → Cause} (h : s.causesInv) (hx : t.ct.slots = s.ct.slots.map f)
    (hf : ∀ c, c.ok = true → (f c).ok = true) : t.causesInv := by
  refine ⟨by simpa [hx] using h.1, fun c hc => ?_⟩
  rw [hx, List.mem_map] at hc
  obtain ⟨d, hd, rfl⟩ := hc
  exact hf d (h.2 d hd)

/-! ### Triggers, sources and countdowns (R63, R67 to R71) -/

theorem raiseStatus_causesInv (h : s.causesInv) : (raiseStatus s).causesInv := causesInv_of_ct h (by simp)

theorem raiseEvent_causesInv (e : Event) (h : s.causesInv) : (raiseEvent e s).causesInv := h

theorem reportCause_causesInv (c : Cause) (h : s.causesInv) : (reportCause c s).causesInv :=
  causesInv_of_ct h (by simp)

theorem trigger_causesInv (i : Nat) (h : s.causesInv) : (trigger i s).causesInv := by
  have slot := h.slot i
  simp only [trigger]
  split
  · exact h
  next hs => exact raiseStatus_causesInv (setSlot_causesInv h (toPending_ok slot (by simp [hs])))
  · exact setSlot_causesInv h (Cause.ok_congr slot rfl rfl rfl)
  · exact h
  · exact iteInduction (fun _ => setSlot_causesInv h (Cause.ok_congr slot rfl rfl rfl)) fun _ => h

theorem followSource_causesInv (i : Nat) (h : s.causesInv) : (followSource i s).causesInv :=
  iteInduction (fun _ => h) fun _ => reportCause_causesInv _ (setSlot_causesInv h (follow_ok _ (h.slot i)))

theorem patienceRunsOut_causesInv (i : Nat) (h : s.causesInv) : (patienceRunsOut i s).causesInv := by
  have slot := h.slot i
  refine iteInduction (fun hp => iteInduction (fun _ => ?_) fun _ => ?_) fun _ => h
  · exact setSlot_causesInv h (Cause.ok_congr slot rfl rfl rfl)
  · exact raiseEvent_causesInv _ (setSlot_causesInv h (toIdle_ok slot (by simp [hp.1])))

theorem lingerRunsOut_causesInv (i : Nat) (h : s.causesInv) : (lingerRunsOut i s).causesInv :=
  iteInduction (fun hl => reportCause_causesInv _ (raiseStatus_causesInv
    (setSlot_causesInv h (toIdle_ok (h.slot i) (by simp [hl]))))) fun _ => h

theorem setTimer_causesInv (n : Nat) (w : WakeTimer) (h : s.causesInv) : (setTimer n w s).causesInv :=
  causesInv_congr h (by simp [setTimer])

theorem wakeTimerRunsOut_causesInv (n : Nat) (h : s.causesInv) : (wakeTimerRunsOut n s).causesInv :=
  iteInduction (fun _ => trigger_causesInv _ (setTimer_causesInv _ _ h)) fun _ => h

theorem filteredEdge_causesInv (k : Nat) (b : Bool) (h : s.causesInv) : (filteredEdge k b s).causesInv := by
  have sensed : ∀ x, (s.withCt { s.ct with sense := x }).causesInv := fun _ => causesInv_congr h rfl
  refine iteInduction (fun _ => h) fun _ => followSource_causesInv _ ?_
  exact iteInduction (fun _ => trigger_causesInv _ (sensed _)) fun _ => sensed _

theorem sampleSense_causesInv (k : Nat) (h : s.causesInv) : (sampleSense k s).causesInv :=
  iteInduction (fun _ => causesInv_congr h rfl) fun _ =>
    iteInduction (fun _ => filteredEdge_causesInv _ _ h) fun _ => causesInv_congr h rfl

theorem countSlot_causesInv (i : Nat) (h : s.causesInv) : (countSlot i s).causesInv := by
  have counted : ∀ n, (setSlot i { s.slot i with countdown := n } s).causesInv := fun n =>
    setSlot_causesInv h (Cause.ok_congr (h.slot i) rfl rfl rfl)
  simp only [countSlot]
  split
  · exact iteInduction (fun _ => h) fun _ =>
      iteInduction (fun _ => patienceRunsOut_causesInv _ h) fun _ => counted _
  · exact iteInduction (fun _ => lingerRunsOut_causesInv _ h) fun _ => counted _
  all_goals exact h

theorem countWakeTimer_causesInv (n : Nat) (h : s.causesInv) : (countWakeTimer n s).causesInv :=
  iteInduction (fun _ => iteInduction (fun _ => wakeTimerRunsOut_causesInv _ h) fun _ => setTimer_causesInv _ _ h)
    fun _ => h

theorem releaseSlot_causesInv {i : Nat} (h : s.causesInv) (hi : (s.slot i).state ≠ .disabled) :
    (releaseSlot i s).causesInv := by
  have idle := setSlot_causesInv (i := i) h (toIdle_ok (h.slot i) hi)
  exact iteInduction (fun _ => idle) fun _ =>
    iteInduction (fun _ => reportCause_causesInv _ (raiseStatus_causesInv idle)) fun _ => raiseStatus_causesInv idle

/-! ### Offers, commits and decisions (R73 to R77, R81) -/

/-- Only a Pending cause is offered (R73). -/
theorem offerCauses_causesInv (h : s.causesInv) : (offerCauses s).causesInv := by
  refine causesInv_map h (f := fun c => if s.offerable c then { c with offered := true } else c) rfl fun c hc => ?_
  refine iteInduction (motive := fun c : Cause => c.ok = true) (fun ho => ?_) fun _ => hc
  have pending : c.state = .pending := by
    simp only [State.offerable, Bool.and_eq_true, beq_iff_eq] at ho
    exact ho.1.1
  exact Cause.ok_of_enabled hc (by simp [pending]) rfl (by simp [pending]) fun _ => pending

theorem acceptOffers_causesInv (o : Option Half) (h : s.causesInv) : (acceptOffers o s).causesInv := by
  refine ⟨by simpa [acceptOffers] using h.1, fun c hc => ?_⟩
  rw [acceptOffers_slots, List.mem_mapIdx] at hc
  obtain ⟨i, hi, rfl⟩ := hc
  exact accepted_ok _ _ (h.2 _ (List.getElem_mem hi))

theorem curtail_causesInv (h : s.causesInv) : (curtail s).causesInv :=
  causesInv_map h (curtail_slots s) fun _ => curtailedAt_ok _

theorem wantAcceptable_causesInv (h : s.causesInv) : (wantAcceptable s).causesInv := causesInv_of_ct h (by simp)

theorem alarmSlot_causesInv (b : Alarms) (h : s.causesInv) : (alarmSlot b s).causesInv := by
  have followed := setSlot_causesInv (i := 6) h (follow_ok (s.sourceActive 6) (h.slot 6))
  exact iteInduction (fun _ => trigger_causesInv _ followed) fun _ => followed

theorem ctStatus_causesInv (o : Option Half) (b : Alarms) (h : s.causesInv) : (ctStatus o b s).causesInv :=
  alarmSlot_causesInv b (wantAcceptable_causesInv (curtail_causesInv (acceptOffers_causesInv o h)))

theorem returnOffers_causesInv (h : s.causesInv) : (returnOffers s).causesInv := by
  refine causesInv_map h (f := Cause.unoffer) ?_ fun _ => unoffer_ok
  simp only [returnOffers]
  split <;> simp

theorem dropOpened_causesInv (h : s.causesInv) : (dropOpened s).causesInv :=
  causesInv_map h (f := fun c => { c with opened := none }) rfl fun _ hc => Cause.ok_congr hc rfl rfl rfl

theorem ctAdmit_causesInv (m : HoldMap) (h : s.causesInv) : (ctAdmit m s).causesInv := by
  refine wantAcceptable_causesInv (causesInv_map h rfl fun c hc => ?_)
  refine iteInduction (motive := fun c : Cause => c.ok = true) (fun hh => ?_) fun _ => hc
  exact iteInduction (motive := fun c : Cause => c.ok = true) (fun _ => Cause.ok_congr hc rfl rfl rfl)
    fun _ => toPending_ok hc (Cause.enabled_of_holding hh)

theorem loadCauses_causesInv (s : State) : (loadCauses s).causesInv := loadSlots_ok s.settings

theorem localStatus_causesInv (h : s.causesInv) : (localStatus s).causesInv := by
  have offered : (localOffered s).causesInv := offerCauses_causesInv h
  have judged : (ctStatus none s.ev.alarm (localViewed s)).causesInv :=
    ctStatus_causesInv _ _ (causesInv_of_ct offered (by simp [localViewed]))
  have refilled : (localRefilled s).causesInv :=
    iteInduction (fun _ => causesInv_of_ct judged (by simp)) fun _ => judged
  exact causesInv_of_ct refilled (by simp [localStatus_eq, localPowered])

theorem takeDueDecisions_causesInv (h : s.causesInv) : (takeDueDecisions s).causesInv := by
  have decided : (if s.mc.decisionDue then localStatus s else s).causesInv :=
    iteInduction (fun _ => localStatus_causesInv h) fun _ => h
  exact iteInduction (fun _ => iteInduction (fun _ => causesInv_of_ct decided (by simp)) fun _ => decided) fun _ => h

theorem enterLocal_causesInv (h : s.causesInv) : (enterLocal s).causesInv := by
  have entered := localStatus_causesInv (s := evLocalEntry s) (causesInv_of_ct h (by simp))
  exact iteInduction (fun _ => causesInv_of_ct entered (by simp)) fun _ => entered

/-! ### Line faults and outcomes -/

theorem reportFault_causesInv (f : LineFault) (h : s.causesInv) : (reportFault f s).causesInv := by
  have left : ∀ r m, (cuLeaveMember (dropOpened (returnOffers ((s.withRe r).withMc m)))).causesInv := fun r m =>
    causesInv_of_ct (dropOpened_causesInv (returnOffers_causesInv (s := (s.withRe r).withMc m) h)) (by simp)
  have dropped : ∀ r m, (dropOpened ((s.withRe r).withMc m)).causesInv := fun r m =>
    dropOpened_causesInv (s := (s.withRe r).withMc m) h
  simp only [reportFault]
  split
  · exact enterLocal_causesInv (left _ _)
  · exact iteInduction (fun _ => h) fun _ => enterLocal_causesInv (dropped _ _)
  · exact causesInv_of_ct h (by simp)
  all_goals exact h

theorem commitStatus_causesInv (r : RoundRecord) (h : s.causesInv) : (commitStatus r s).causesInv := by
  have viewed : (statusViewed r s).causesInv := causesInv_of_ct h (statusViewed_frame r s).1
  exact causesInv_of_ct (s := statusJudged r s) (ctStatus_causesInv _ _ viewed) (commitStatus_parts r s).2.1

theorem judgeJoin_causesInv (b : Bool) (x n c : Half) (m : HoldMap) (h : s.causesInv) :
    (judgeJoin b x n c m s).causesInv := by
  have refused : ∀ f d, (refuse f d s).causesInv := fun f d => by
    have left : ∀ t : State, t.ct = s.ct → (setDisagreement d t).causesInv := fun t ht =>
      causesInv_of_ct h (by simp [ht])
    exact raiseEvent_causesInv _ (iteInduction (fun _ => left _ rfl) fun _ => enterLocal_causesInv (left _ rfl))
  have admitted : (admitStation c m s).causesInv :=
    causesInv_of_ct (ctAdmit_causesInv m (causesInv_of_ct (t := evAdmit m (raiseStatus (admitted s c))) h
      (by simp [Machine.admitted]))) (by simp [admitStation, Machine.admitted])
  exact iteInduction (fun _ => refused _ _) fun _ => iteInduction (fun _ => admitted) fun _ => refused _ _

theorem commitRound_causesInv (r : RoundRecord) (h : s.causesInv) : (commitRound r s).causesInv := by
  have counted : (s.withRe { s.re with voids := 0 }).causesInv := h
  simp only [commitRound]
  split
  · exact commitStatus_causesInv r counted
  · exact causesInv_of_ct counted (by simp)
  · exact causesInv_of_ct counted (by simp)
  · exact iteInduction (fun _ => causesInv_of_ct counted (by simp)) fun _ => judgeJoin_causesInv _ _ _ _ _ counted
  · exact counted

/-- What the line and the RE make the owners do keeps the cause table in order. -/
theorem causesInv_owners : OwnersKeep State.causesInv where
  lif _ h := h
  re _ h := h
  pins _ h := h
  offers := offerCauses_causesInv
  fault f := reportFault_causesInv f
  returns := returnOffers_causesInv
  commit r := commitRound_causesInv r

/-! ### The period, the link and the starts -/

theorem periodCounts_ct : ∀ f ∈ periodCounts, ∀ t : State, (f t).ct = t.ct := by simp [periodCounts]

/-- Of the counts of a tick the slots' and the wake timers' alone touch the CT. -/
theorem tickCounts_causesInv : ∀ f ∈ tickCounts, ∀ t : State, t.causesInv → (f t).causesInv := by
  intro f hf t h
  simp only [tickCounts, List.mem_append, List.mem_map, List.mem_cons, List.not_mem_nil, or_false] at hf
  rcases hf with ⟨i, -, rfl⟩ | rfl | rfl | rfl | rfl | rfl | rfl | rfl | rfl | rfl | rfl
  on_goal 1 => exact countSlot_causesInv i h
  on_goal 1 => exact countWakeTimer_causesInv 0 h
  on_goal 1 => exact countWakeTimer_causesInv 1 h
  all_goals exact causesInv_of_ct h (by simp)

theorem slowPeriod_causesInv (h : s.causesInv) : (slowPeriod s).causesInv := by
  refine causesInv_owners.slowPeriod h (fun f hf t ht => ?_) (fun _ => takeDueDecisions_causesInv)
    (fun k _ => sampleSense_causesInv k) fun t ht => ⟨causesInv_of_ct ht (by simp), causesInv_of_ct ht (by simp)⟩
  rcases List.mem_append.1 hf with hf | hf
  · exact causesInv_of_ct ht (periodCounts_ct f hf t)
  · exact tickCounts_causesInv f hf t ht

theorem fixConfiguration_causesInv (s : State) : (fixConfiguration s).causesInv :=
  causesInv_of_ct (s := loadCauses (fixEntered s)) (loadCauses_causesInv _)
    (by rw [fixConfiguration_eq]; simp [fixLoaded])

theorem coldState_causesInv (s : State) : (coldState s).causesInv := by
  refine ⟨by simp [coldState, Ct.cold], fun c hc => ?_⟩
  rw [List.eq_of_mem_replicate (show c ∈ List.replicate 16 Cause.disabled from hc)]
  rfl

theorem warmState_causesInv (s : State) : (warmState s).causesInv := loadSlots_ok s.pl.store

/-- A Post Cause that is taken names a level of 1 to 7 (R66). -/
theorem postAnswer_causesInv (i c l p r : Byte) (h : s.causesInv) : (postAnswer i c l p r s).state.causesInv := by
  by_cases level : causeLevel c = 0
  · simpa [postAnswer, level, outOfRange] using h
  · rcases postAnswer_state s i c l p r with hs | hs | hs <;> rw [hs]
    · exact h
    · exact trigger_causesInv _ h
    · exact trigger_causesInv _ (setSlot_causesInv h (postedEntry_ok l p r level))

/-- A Disabled slot is not released (R67). -/
theorem releaseAnswer_causesInv (i : Byte) (h : s.causesInv) : (releaseAnswer i s).state.causesInv := by
  refine iteInduction (motive := fun a : Answer => a.state.causesInv) (fun _ => h) fun _ => ?_
  exact iteInduction (motive := fun a : Answer => a.state.causesInv) (fun _ => h) fun hd => releaseSlot_causesInv h hd

end Causes

/-! ### The cause table along a step -/

/-- Every command keeps the cause table in order. -/
theorem exec_causesInv {c : Instr} {s t : State} (h : s.causesInv) (he : exec c s = .next t) : t.causesInv := by
  have kept : ∀ {f : State → State}, gated s f = .next t → (f s).causesInv → t.causesInv := fun he hf =>
    gated_keeps he h fun _ => hf
  have framed : ∀ {f : State → State}, gated s f = .next t → (f s).ct = s.ct → t.causesInv := fun he hf =>
    kept he (causesInv_of_ct h hf)
  have linked : ∀ {owner : State → Answer} {u : State}, linkCommand owner s = .next t → (owner s).state = u →
      u.causesInv → t.causesInv := fun he hu hr => linkCommand_keeps he h (fun _ _ hx => hx) fun _ => hu ▸ hr
  have same : ∀ {u : State}, u.ct = s.ct → u.causesInv := causesInv_of_ct h
  cases c with
  | coldStart => exact Host.Outcome.next.inj he ▸ coldState_causesInv s
  | warmStart =>
    obtain rfl := Host.Outcome.next.inj he
    exact iteInduction (fun _ => warmState_causesInv s) fun _ => coldState_causesInv s
  | rstNLow => exact Host.Outcome.next.inj he ▸ h
  | seekingEnd | startRequest | startPulseSeen | startAccepted | glitch | round | stuckLine | stuckLineCleared
  | assertedPeriodWatchReading => exact causesInv_owners.exec_lineCommand rfl h he
  | localDecision => exact kept he (takeDueDecisions_causesInv h)
  | senseFilteredEdge k b =>
    simp only [exec, execSenseFilteredEdge] at he
    exact kept he (filteredEdge_causesInv _ _ h)
  | wakeTimerExpiry n => exact kept he (wakeTimerRunsOut_causesInv _ h)
  | patienceExpiry i => exact kept he (patienceRunsOut_causesInv _ h)
  | lingerExpiry i => exact kept he (lingerRunsOut_causesInv _ h)
  | rejoinTimerExpiry | heartbeatExpiry | settleExpiry | helloTimerExpiry | graceExpiry | quietDelayExpiry
  | linkHoldExpiry | batteryTimerExpiry | quietIntervalExpiry | conversionEnd | sampleBoundary | exclusionAgeOut
  | holdOffEnd => exact framed he (by simp)
  | clockConfirmed | clockSettleTimeout | clockOutOfTolerance => exact framed he (by split <;> simp)
  | linkSelect => exact Host.Outcome.next.inj he ▸ same (by simp)
  | linkDeselect n => exact Host.Outcome.next.inj he ▸ same (by simp)
  | unknownCommand b =>
    obtain rfl := Host.Outcome.next.inj he
    exact iteInduction (fun _ => same (by simp)) fun _ => h
  | readStationStatus | readCauseTable | readEpisodeTable | readDrainRecord => exact linked he rfl h
  | readCensus => exact linked he rfl (by split <;> exact h)
  | readAndClearEvents => exact linked he rfl (same (by simp [reads]))
  | readConfigSection i => exact linked he rfl (by split <;> exact h)
  | writeConfigSection i b =>
    have written : ∀ b', (writeSection i b' s).state.causesInv := fun b' => by
      rcases writeSection_state s i b' with hs | ⟨-, hs⟩ <;> rw [hs]
      · exact h
      · exact same rfl
    simp only [exec, execWriteConfigSection] at he
    split at he
    · exact linked he rfl (written _)
    · split at he
      · exact linked he rfl (written _)
      · exact Host.Outcome.next.inj he ▸ same (by simp)
  | fix =>
    rcases fixAnswer_state s with hs | ⟨-, hs⟩
    · exact linked he hs h
    · exact linked he hs (fixConfiguration_causesInv s)
  | postCause i c l p r => exact linked he rfl (postAnswer_causesInv i c l p r h)
  | releaseCause i => exact linked he rfl (releaseAnswer_causesInv i h)
  | armTimer n c m =>
    rcases armAnswer_state s n c m with hs | hs
    · exact linked he hs h
    · exact linked he hs (setTimer_causesInv _ _ h)
  | startCensus l =>
    rcases startCensusAnswer_state s l with hs | hs
    · exact linked he hs h
    · exact linked he hs (same (by simp))
  | abandonCensus =>
    rcases abandonAnswer_state s with hs | hs | hs
    · exact linked he hs h
    · exact linked he hs (same rfl)
    · exact linked he hs (same rfl)
  | hello =>
    rcases helloAnswer_state s with hs | hs
    · exact linked he hs h
    · exact linked he hs (same (by simp))
  | park =>
    rcases parkAnswer_state s with hs | hs
    · exact linked he hs h
    · exact linked he hs (same (by simp))
  | clearCut =>
    rcases clearCutAnswer_state s with hs | hs | hs
    · exact linked he hs h
    · exact linked he hs (same (by simp))
    · exact linked he hs (same (by simp))
  | requestRefill =>
    rcases refillAnswer_state s with hs | hs
    · exact linked he hs h
    · exact linked he hs (same (by simp))
  | requestRestore =>
    rcases restoreAnswer_state s with hs | hs
    · exact linked he hs h
    · exact linked he hs (same (by simp))
  | rejoin =>
    rcases rejoinAnswer_state s with hs | hs | hs
    · exact linked he hs h
    · exact linked he hs (same (by simp))
    · exact linked he hs (same (by simp))

/-- Settles O13: the cause table is kept in order by every slow-clock period and by every command. -/
theorem stepKeepsTheCauses : Obligations.StepKeepsTheCauses := by
  intro s t h he
  simp only [step] at he
  split at he
  · exact Host.Outcome.next.inj he ▸ slowPeriod_causesInv h
  · exact exec_causesInv (causesInv_of_ct h (by simp)) he

end Sys2Proof.Machine

namespace Sys2Proof.Machine

/-! ## Acceptable levels (R72, R84) -/

/-- The top Exclusive level bounds the Exclusive levels of a table and the level it starts from, and is one of them. -/
theorem foldl_topExclusive (t : List Entry) (e : Level) :
    let top := t.foldl (fun e x => if x.exclusive then max e x.level else e) e
    e ≤ top ∧ (∀ x ∈ t, x.exclusive = true → x.level ≤ top)
      ∧ (top = e ∨ ∃ x ∈ t, x.exclusive = true ∧ x.level = top) := by
  induction t generalizing e with
  | nil => simp
  | cons y ys ih =>
    obtain ⟨above, bounds, reached⟩ := ih (if y.exclusive then max e y.level else e)
    simp only [List.foldl_cons, List.forall_mem_cons, List.exists_mem_cons_iff]
    cases hy : y.exclusive with
    | false =>
      simp only [hy, Bool.false_eq_true, if_false] at above bounds reached ⊢
      exact ⟨above, ⟨nofun, bounds⟩, reached.imp_right .inr⟩
    | true =>
      simp only [hy, if_true] at above bounds reached ⊢
      refine ⟨(le_max_left ..).trans above, ⟨fun _ => (le_max_right ..).trans above, bounds⟩, ?_⟩
      rcases reached with top | found
      · rcases max_choice e y.level with he | hl
        · exact .inl (top.trans he)
        · exact .inr (.inl ⟨trivial, (top.trans hl).symm⟩)
      · exact .inr (.inr found)

/-- E bounds the levels of the Exclusive entries, and is one of them or 0 (R84). -/
theorem topLevel_spec (s : State) : (∀ x ∈ s.ev.table, x.exclusive = true → x.level ≤ s.topLevel)
    ∧ (s.topLevel = 0 ∨ ∃ x ∈ s.ev.table, x.exclusive = true ∧ x.level = s.topLevel) :=
  (foldl_topExclusive s.ev.table 0).2

theorem acceptable_iff (s : State) (l : Level) : s.acceptable l = true ↔
    (s.topLevel < l ∧ s.settings.floorOf s.ev.grade < l)
      ∨ (l = s.topLevel ∧ s.settings.floorOf s.ev.grade < s.topLevel) := by
  rw [State.acceptable, Bool.or_eq_true, Bool.and_eq_true, decide_eq_true_eq, decide_eq_true_eq, beq_iff_eq,
    State.floor, max_lt_iff]
  rfl

/-- Settles O30. -/
theorem acceptableLevels : Obligations.AcceptableLevels := fun s l => ⟨acceptable_iff s l, topLevel_spec s⟩

end Sys2Proof.Machine

namespace Sys2Proof.Machine

/-! ## What a trigger does to its slot (R68) -/

/-- A cause after a trigger of its slot (R68). -/
def Cause.triggered (c : Cause) : Cause :=
  match c.state with
  | .idle => c.toPending
  | .pending => { c with merged := true }
  | .lingering => if c.mode = .momentary then { c with countdown := c.lingerTicks } else c
  | .disabled | .held => c

theorem triggered_idle {c : Cause} (h : c.state = .idle) : c.triggered = c.toPending := by simp [Cause.triggered, h]

theorem triggered_pending {c : Cause} (h : c.state = .pending) : c.triggered = { c with merged := true } := by
  simp [Cause.triggered, h]

theorem triggered_disabled {c : Cause} (h : c.state = .disabled) : c.triggered = c := by simp [Cause.triggered, h]

theorem triggered_held {c : Cause} (h : c.state = .held) : c.triggered = c := by simp [Cause.triggered, h]

/-- The linger of a Lingering Momentary cause starts again. -/
theorem triggered_momentary {c : Cause} (h : c.state = .lingering) (hm : c.mode = .momentary) :
    c.triggered = { c with countdown := c.lingerTicks } := by simp [Cause.triggered, h, hm]

/-- A Lingering Level-mode cause follows its source alone. -/
theorem triggered_level {c : Cause} (h : c.state = .lingering) (hm : c.mode = .level) : c.triggered = c := by
  simp [Cause.triggered, h, hm]

section Trigger

variable (s : State) (i : Nat)

/-- A trigger gives its slot the triggered cause, and raises a Status want where the cause was Idle. -/
theorem trigger_eq : trigger i s = if (s.slot i).state = .idle then raiseStatus (setSlot i (s.slot i).triggered s)
    else setSlot i (s.slot i).triggered s := by
  have stands : ∀ c, c = s.slot i → s = setSlot i c s := fun c hc => by rw [hc, setSlot_self]
  simp only [trigger, Cause.triggered]
  split
  next h => simpa [h] using stands _ rfl
  next h => simp [h]
  next h => simp [h]
  next h => simpa [h] using stands _ rfl
  next h =>
    split
    · simp [h]
    · simpa [h] using stands _ rfl

theorem trigger_idle (h : (s.slot i).state = .idle) : trigger i s = raiseStatus (setSlot i (s.slot i).toPending s) := by
  rw [trigger_eq, if_pos h, triggered_idle h]

/-- A trigger of a cause that is not Idle raises no want. -/
theorem trigger_of_not_idle (h : (s.slot i).state ≠ .idle) : trigger i s = setSlot i (s.slot i).triggered s := by
  rw [trigger_eq, if_neg h]

/-- Of the CT a trigger touches its slot alone. -/
theorem trigger_ct : (trigger i s).ct = { s.ct with slots := s.ct.slots.set i (s.slot i).triggered } := by
  rw [trigger_eq]
  split <;> simp [setSlot]

theorem trigger_slot (h : i < s.ct.slots.length) : (trigger i s).slot i = (s.slot i).triggered := by
  simp [State.slot, trigger_ct, List.getD_eq_getElem?_getD, h]

/-- A trigger of an Idle cause is a Member's Status want (R31, R68). -/
theorem trigger_held (h : (s.slot i).state = .idle) (hm : s.mc.state = .member) :
    (trigger i s).re.status.held = true := by
  rw [trigger_idle s i h]
  exact raiseStatus_held _ (by simpa using hm)

end Trigger

/-! ## Wants, notices and the parts a frame names -/

section Frames

variable {s t : State} {bs : List Block}

/-- What raises a Status want and no more keeps the rest of the RE and the MC, and the PL's requests and store. -/
theorem frames_of_raises (h : raisesOnly s t) (k : wantsOnly s t) : wantFrame s t ∧ noticeFrame s t := by
  obtain ⟨-, -, re, -, -, -, refill, restore, -⟩ := h
  obtain ⟨mc, -, -, -, store⟩ := k
  exact ⟨⟨re, mc⟩, refill, restore, store⟩

theorem trigger_wantFrame (s : State) (i : Nat) : wantFrame s (trigger i s) :=
  (frames_of_raises (trigger_raisesOnly i s) (trigger_wantsOnly i s)).1

theorem trigger_changesOnly (s : State) (i : Nat) : changesOnly [.ct, .re, .mc] s (trigger i s) := by
  simp [changesOnly_iff]

theorem setSlot_changesOnly (i : Nat) (c : Cause) (s : State) : changesOnly [.ct] s (setSlot i c s) := by
  simp [changesOnly_iff]

theorem reportCause_raisesOnly (c : Cause) (s : State) : raisesOnly s (reportCause c s) :=
  iteInduction (motive := raisesOnly s) (fun _ => evaluateNeed_raisesOnly s) fun _ => raisesOnly_refl s

/-- A cause without self rails is not reported to the MPC (R79). -/
theorem reportCause_no_rails {c : Cause} (h : c.rails = 0) (s : State) : reportCause c s = s := by
  simp [reportCause, Cause.hasRails, h, railsNeed]

theorem slot_congr (h : t.ct.slots = s.ct.slots) (i : Nat) : t.slot i = s.slot i := by
  rw [State.slot, h]
  rfl

@[simp] theorem raiseStatus_slot (s : State) (i : Nat) : (raiseStatus s).slot i = s.slot i := by simp [State.slot]

@[simp] theorem reportCause_slot (c : Cause) (s : State) (i : Nat) : (reportCause c s).slot i = s.slot i := by
  simp [State.slot]

@[simp] theorem withAnswer_slot (s : State) (a : Byte) (b : List Byte) (i : Nat) :
    (s.withAnswer a b).slot i = s.slot i := rfl

/-- Of the CT a slot's new value touches the slots alone. -/
@[simp] theorem setSlot_ct (i : Nat) (c : Cause) (s : State) :
    (setSlot i c s).ct = { s.ct with slots := s.ct.slots.set i c } := rfl

theorem changesOnly_trans {u : State} (h : changesOnly bs s t) (k : changesOnly bs t u) : changesOnly bs s u := by
  intro b hb
  have first := h b hb
  have second := k b hb
  cases b <;> exact second.trans first

/-- What changes from the state with other pin levels changes, with the pins, from the state itself. -/
theorem changesOnly_of_withPins {x : Pins} (h : changesOnly bs (s.withPins x) t) : changesOnly (bs ++ [.pins]) s t := by
  intro b hb
  rw [List.mem_append, not_or] at hb
  have agrees := h b hb.1
  cases b with
  | pins => exact absurd (List.mem_singleton_self _) hb.2
  | _ => exact agrees

end Frames

end Sys2Proof.Machine

namespace Sys2Proof.Machine

/-! ## Wake timers (R63, R64) -/

section Timers

variable (s : State)

@[simp] theorem timer_setTimer (n : Nat) (w : WakeTimer) (h : n < s.ct.timers.length) :
    (setTimer n w s).timer n = w := by
  simp [setTimer, State.timer, List.getD_eq_getElem?_getD, h]

theorem timer_setTimer_ne {n m : Nat} (w : WakeTimer) (h : m ≠ n) : (setTimer n w s).timer m = s.timer m := by
  simp [setTimer, State.timer, List.getD_eq_getElem?_getD, List.getElem?_set_ne h.symm]

@[simp] theorem setTimer_slot (n : Nat) (w : WakeTimer) (i : Nat) : (setTimer n w s).slot i = s.slot i := rfl

@[simp] theorem setTimer_ct (n : Nat) (w : WakeTimer) :
    (setTimer n w s).ct = { s.ct with timers := s.ct.timers.set n w } := rfl

@[simp] theorem trigger_timer (i n : Nat) : (trigger i s).timer n = s.timer n := by simp [State.timer, trigger_ct]

@[simp] theorem withAnswer_timer (a : Byte) (b : List Byte) (n : Nat) : (s.withAnswer a b).timer n = s.timer n := rfl

/-- A wake timer that has reached 0: a periodic one is reloaded, a one-shot one stops (R63). -/
def WakeTimer.expired (w : WakeTimer) : WakeTimer :=
  if w.periodic then { w with count := w.reload } else { w with count := 0, running := false }

theorem wakeTimerRunsOut_running {n : Nat} (h : (s.timer n).running = true) :
    wakeTimerRunsOut n s = trigger (4 + n) (setTimer n (s.timer n).expired s) := if_pos h

end Timers

/-- Settles O32. -/
theorem wakeTimerTriggersItsSlot : Obligations.WakeTimerTriggersItsSlot := by
  intro s n hr hs ht hn
  refine ⟨_, gated_of_rstN s (wakeTimerRunsOut n.val) hr, ?_⟩
  rw [wakeTimerRunsOut_running s hn]
  have timer : n.val < s.ct.timers.length := by omega
  have slot : (trigger (4 + n.val) (setTimer n.val (s.timer n.val).expired s)).slot (4 + n.val)
      = (s.slot (4 + n.val)).triggered := trigger_slot _ _ (by simp [hs]; omega)
  have loaded : changesOnly [.ct, .re, .mc] s (setTimer n.val (s.timer n.val).expired s) := by simp [changesOnly_iff]
  rw [slot]
  refine ⟨by simp [timer, WakeTimer.expired], fun m hm => by simp [timer_setTimer_ne s _ hm],
    fun j hj => by simp [trigger_slot_ne _ hj.symm], by simp [trigger_ct],
    changesOnly_trans loaded (trigger_changesOnly _ _), trigger_wantFrame _ _, fun h => ?_, fun h hm => ?_, fun h => ?_,
    fun h => ?_⟩
  · rw [triggered_idle h]
    exact ⟨rfl, rfl, fun hm => trigger_held _ _ h hm⟩
  · exact triggered_momentary h hm
  · exact triggered_pending h
  · rcases h with h | h
    · exact triggered_disabled h
    · exact triggered_held h

/-! ### ARM_TIMER (R64, R199) -/

theorem armAnswer_outOfRange {n m : Byte} (h : 1 < n.toNat ∨ 1 < m.toNat) (c : BitVec 24) (s : State) :
    armAnswer n c m s = outOfRange s := by simp [armAnswer, h]

theorem armAnswer_inRange {n m : Byte} (hn : n.toNat ≤ 1) (hm : m.toNat ≤ 1) (c : BitVec 24) (s : State) :
    armAnswer n c m s = if s.fixed then done (setTimer n.toNat (armedTimer c.toNat (m == 1) (s.timer n.toNat)) s)
      else wrongState s := by
  cases hf : s.fixed <;> simp [armAnswer, Nat.not_lt.2 hn, Nat.not_lt.2 hm, hf]

theorem armedTimer_zero (b : Bool) (w : WakeTimer) : armedTimer 0 b w = { w with count := 0, running := false } := rfl

theorem armedTimer_pos {n : Nat} (h : n ≠ 0) (b : Bool) (w : WakeTimer) : armedTimer n b w = ⟨n, n, b, true⟩ := if_neg h

/-- Settles O57. -/
theorem armTimerLoadsTheTimer : Obligations.ArmTimerLoadsTheTimer := by
  intro s n count mode hs ht
  refine ⟨fun h => linkCommand_unmoved hs (armAnswer_outOfRange h count s), fun hn hm hf => ?_, fun hn hm hf => ?_⟩
  · exact linkCommand_unmoved hs ((armAnswer_inRange hn hm count s).trans (by rw [hf]; rfl))
  · have owner := armAnswer_inRange hn hm count s
    rw [hf, if_pos rfl] at owner
    have taken := linkCommand_answers (owner := armAnswer n count mode) hs
      (by rw [owner]; simpa [done] using linkReady_raila s hs)
    rw [owner] at taken
    have timer : n.toNat < s.ct.timers.length := by omega
    refine ⟨_, taken, ?_⟩
    simp only [done, withAnswer_timer, timer_setTimer s _ _ timer]
    refine ⟨by simp [State.withAnswer, statusDone], fun hc => ?_, fun hc => ?_, fun m hm => timer_setTimer_ne s _ hm,
      by simp, by simp [changesOnly_iff]⟩
    · exact armedTimer_pos (fun hz => hc (BitVec.eq_of_toNat_eq hz)) _ _
    · rw [hc]
      exact armedTimer_zero _ _

end Sys2Proof.Machine

namespace Sys2Proof.Machine

/-! ## Countdowns that run out (R69, R71) -/

section Countdowns

variable {s : State} {i : Nat}

theorem patienceRunsOut_offered (h : (s.slot i).state = .pending) (hp : (s.slot i).patience ≠ 0)
    (ho : (s.slot i).offered = true) :
    patienceRunsOut i s = setSlot i { s.slot i with countdown := 0, expiryHeld := true } s :=
  (if_pos ⟨h, hp⟩).trans (if_pos ho)

theorem patienceRunsOut_plain (h : (s.slot i).state = .pending) (hp : (s.slot i).patience ≠ 0)
    (ho : (s.slot i).offered = false) :
    patienceRunsOut i s = raiseEvent .causeExpired (setSlot i (s.slot i).toIdle s) :=
  (if_pos ⟨h, hp⟩).trans (if_neg (by simp [ho]))

/-- What a cause that ends raises: a Status want, and what its report to the MPC raises (R71, R78, R79). -/
theorem endCause_raises (c d : Cause) (s : State) :
    raisesOnly s (reportCause c (raiseStatus (setSlot i d s)))
      ∧ wantsOnly s (reportCause c (raiseStatus (setSlot i d s))) :=
  ⟨raisesOnly_trans (raisesOnly_trans (setSlot_raisesOnly i d s) (raiseStatus_raisesOnly _))
      (reportCause_raisesOnly c _),
    wantsOnly_trans (wantsOnly_trans (wantsOnly_of_eq (by simp) (by simp) (by simp)) (raiseStatus_wantsOnly _))
      (reportCause_wantsOnly c _)⟩

theorem lingerRunsOut_lingering (h : (s.slot i).state = .lingering) :
    lingerRunsOut i s = reportCause (s.slot i) (raiseStatus (setSlot i (s.slot i).toIdle s)) := if_pos h

end Countdowns

theorem patienceEndsItsCause {s : State} {i : Fin 16} (hr : s.pins.rstN = true) (hs : s.ct.slots.length = 16)
    (h : (s.slot i.val).state = .pending) (hp : (s.slot i.val).patience ≠ 0) :
    ∃ t, exec (.patienceExpiry i) s = .next t
      ∧ (∀ j, j ≠ i.val → t.slot j = s.slot j) ∧ t.ct.timers = s.ct.timers ∧ changesOnly [.ct, .pl] s t
      ∧ noticeFrame s t
      ∧ ((s.slot i.val).offered = false → t.slot i.val = (s.slot i.val).toIdle ∧ t.eventSet .causeExpired = true)
      ∧ ((s.slot i.val).offered = true →
        t.slot i.val = { s.slot i.val with countdown := 0, expiryHeld := true } ∧ t.pl = s.pl) := by
  refine ⟨_, gated_of_rstN s (patienceRunsOut i.val) hr, ?_⟩
  have slot : i.val < s.ct.slots.length := by omega
  cases ho : (s.slot i.val).offered with
  | false =>
    rw [patienceRunsOut_plain h hp ho]
    exact ⟨fun j hj => slot_setSlot_ne s _ _ _ hj.symm, rfl, by simp [changesOnly_iff],
      raiseEvent_noticeFrame (setSlot i.val (s.slot i.val).toIdle s) _,
      fun _ => ⟨slot_setSlot s _ _ slot, by simp⟩, nofun⟩
  | true =>
    rw [patienceRunsOut_offered h hp ho]
    exact ⟨fun j hj => slot_setSlot_ne s _ _ _ hj.symm, rfl, by simp [changesOnly_iff], ⟨rfl, rfl, rfl⟩, nofun,
      fun _ => ⟨slot_setSlot s _ _ slot, rfl⟩⟩

theorem lingerEndsItsCause {s : State} {i : Fin 16} (hr : s.pins.rstN = true) (hs : s.ct.slots.length = 16)
    (h : (s.slot i.val).state = .lingering) :
    ∃ t, exec (.lingerExpiry i) s = .next t
      ∧ t.slot i.val = (s.slot i.val).toIdle
      ∧ (∀ j, j ≠ i.val → t.slot j = s.slot j) ∧ t.ct.timers = s.ct.timers
      ∧ t.lif = s.lif ∧ t.ev = s.ev ∧ t.cu = s.cu ∧ t.pins = s.pins ∧ wantFrame s t ∧ noticeFrame s t
      ∧ (s.mc.state = .member → t.re.status.held = true)
      ∧ (s.isLocal = true → t.mc.decisionDue = true)
      ∧ ((s.slot i.val).rails = 0 → changesOnly [.ct, .re, .mc] s t) := by
  refine ⟨_, gated_of_rstN s (lingerRunsOut i.val) hr, ?_⟩
  rw [lingerRunsOut_lingering h]
  have slot : i.val < s.ct.slots.length := by omega
  obtain ⟨raises, wants⟩ := endCause_raises (i := i.val) (s.slot i.val) (s.slot i.val).toIdle s
  obtain ⟨want, notice⟩ := frames_of_raises raises wants
  obtain ⟨-, -, due, held, -⟩ :=
    reportCause_wantsOnly (s.slot i.val) (raiseStatus (setSlot i.val (s.slot i.val).toIdle s))
  refine ⟨by simp [slot], fun j hj => by simp [slot_setSlot_ne s _ _ _ hj.symm], by simp, by simp, by simp, by simp,
    by simp, want, notice, fun hm => held (raiseStatus_held _ (by simpa using hm)),
    fun hl => due (raiseStatus_due _ (by simpa [State.isLocal] using hl)), fun rails => ?_⟩
  rw [reportCause_no_rails rails]
  simp [changesOnly_iff]

/-- Settles O33: the patience of a Pending cause, and the linger of a Lingering one. -/
theorem countdownsEndTheirCause : Obligations.CountdownsEndTheirCause :=
  ⟨fun _ _ hr hs h hp => patienceEndsItsCause hr hs h hp, fun _ _ hr hs h => lingerEndsItsCause hr hs h⟩

end Sys2Proof.Machine

namespace Sys2Proof.Machine

/-! ## Posted causes (R66, R67, R199) -/

/-- The operands that a Post Cause may have (R66, R199). -/
def postInRange (slot cause linger rails : Byte) : Prop :=
  7 ≤ slot.toNat ∧ slot.toNat ≤ 15 ∧ causeLevel cause ≠ 0 ∧ linger ≠ 0 ∧ (rails = 0 ∨ rails = 1 ∨ rails = 3)

theorem postInRange_iff (slot cause linger rails : Byte) : postInRange slot cause linger rails
    ↔ (!postedSlot slot || causeLevel cause == 0 || linger == 0 || !railsDefined rails) = false := by
  simp only [postInRange, postedSlot, railsDefined, Bool.or_eq_false_iff, Bool.not_eq_false', Bool.and_eq_true,
    Bool.or_eq_true, decide_eq_true_eq, beq_eq_false_iff_ne, beq_iff_eq]
  tauto

section Posted

variable {s : State} {slot cause linger patience rails : Byte}

theorem postAnswer_outOfRange (h : ¬ postInRange slot cause linger rails) :
    postAnswer slot cause linger patience rails s = outOfRange s := by
  rw [postInRange_iff, Bool.not_eq_false] at h
  exact if_pos h

theorem postAnswer_unfixed (h : postInRange slot cause linger rails) (hf : s.fixed = false) :
    postAnswer slot cause linger patience rails s = wrongState s := by
  rw [postInRange_iff] at h
  simp only [postAnswer, h, hf, Bool.not_false, Bool.false_eq_true, if_false, if_true]

/-- A free slot is given the entry, and triggered (R66). -/
theorem postAnswer_free (h : postInRange slot cause linger rails) (hf : s.fixed = true)
    (hs : (s.slot slot.toNat).state = .disabled ∨ (s.slot slot.toNat).state = .idle) :
    postAnswer slot cause linger patience rails s
      = done (trigger slot.toNat (setSlot slot.toNat (postedEntry cause linger patience rails) s)) := by
  rw [postInRange_iff] at h
  rcases hs with hs | hs
  · simp only [postAnswer, h, hf, hs, Bool.not_true, Bool.false_eq_true, if_false]
  · simp only [postAnswer, h, hf, hs, Bool.not_true, Bool.false_eq_true, if_false]

/-- A Pending cause and a Lingering Momentary one are triggered as they stand (R66, R68). -/
theorem postAnswer_again (h : postInRange slot cause linger rails) (hf : s.fixed = true)
    (hs : (s.slot slot.toNat).state = .pending
      ∨ (s.slot slot.toNat).state = .lingering ∧ (s.slot slot.toNat).mode = .momentary) :
    postAnswer slot cause linger patience rails s = done (trigger slot.toNat s) := by
  rw [postInRange_iff] at h
  rcases hs with hs | ⟨hs, hm⟩
  · simp only [postAnswer, h, hf, hs, Bool.not_true, Bool.false_eq_true, if_false]
  · simp only [postAnswer, h, hf, hs, hm, Bool.not_true, Bool.false_eq_true, if_false]

/-- A cause whose source is still active is not posted again (R66; log 18). -/
theorem postAnswer_active (h : postInRange slot cause linger rails) (hf : s.fixed = true)
    (hs : (s.slot slot.toNat).state = .held
      ∨ (s.slot slot.toNat).state = .lingering ∧ (s.slot slot.toNat).mode = .level) :
    postAnswer slot cause linger patience rails s = wrongState s := by
  rw [postInRange_iff] at h
  rcases hs with hs | ⟨hs, hm⟩
  · simp only [postAnswer, h, hf, hs, Bool.not_true, Bool.false_eq_true, if_false]
  · simp only [postAnswer, h, hf, hs, hm, Bool.not_true, Bool.false_eq_true, if_false]

/-- A Post Cause that is answered Done is a trigger of its slot, given its entry first where it was free (R66, R68). -/
theorem postCause_triggers {u : State} (hs : s.linkReady) (hu : u = s ∨ ∃ c, u = setSlot slot.toNat c s)
    (owner : postAnswer slot cause linger patience rails s = done (trigger slot.toNat u)) (hl : slot.toNat < 16)
    (h16 : s.ct.slots.length = 16) : ∃ t, exec (.postCause slot cause linger patience rails) s = .next t
      ∧ t = (trigger slot.toNat u).withAnswer 0xA1 [] ∧ t.pl = { s.pl with txn := some (.taken [0xA1]) }
      ∧ t.slot slot.toNat = (u.slot slot.toNat).triggered ∧ (∀ j, j ≠ slot.toNat → t.slot j = s.slot j) := by
  have given : u.mpc = s.mpc ∧ u.pl = s.pl ∧ u.ct.slots.length = 16
      ∧ ∀ j, j ≠ slot.toNat → u.slot j = s.slot j := by
    rcases hu with rfl | ⟨c, rfl⟩
    · exact ⟨rfl, rfl, h16, fun _ _ => rfl⟩
    · exact ⟨rfl, rfl, by simp [h16], fun j hj => slot_setSlot_ne s _ _ _ hj.symm⟩
  obtain ⟨mpc, pl, length, others⟩ := given
  have taken := linkCommand_answers (owner := postAnswer slot cause linger patience rails) hs
    (by rw [owner]; simpa [done, mpc] using linkReady_raila s hs)
  rw [owner] at taken
  refine ⟨_, taken, rfl, by simp [done, State.withAnswer, statusDone, pl], ?_, fun j hj => ?_⟩
  · rw [withAnswer_slot]
    exact trigger_slot u _ (by omega)
  · rw [withAnswer_slot]
    exact (trigger_slot_ne u hj.symm).trans (others j hj)

end Posted

/-- Settles O55: the operands are checked first, then the configuration, then the state of the slot decides. -/
theorem postCauseTriggersItsSlot : Obligations.PostCauseTriggersItsSlot := by
  intro s slot cause linger patience rails hs h16
  refine ⟨fun h => linkCommand_unmoved hs (postAnswer_outOfRange ?_), fun h7 h15 level lingers defined => ?_⟩
  · rintro ⟨h7, h15, level, lingers, defined⟩
    rcases h with h | h | h | h | h
    · omega
    · omega
    · exact level h
    · exact lingers h
    · exact h defined
  have range : postInRange slot cause linger rails := ⟨h7, h15, level, lingers, defined⟩
  have inside : slot.toNat < 16 := by omega
  refine ⟨fun hf => linkCommand_unmoved hs (postAnswer_unfixed range hf), fun hf h => ?_, fun hf h hm => ?_,
    fun hf h => ?_, fun hf h => ?_, fun hf h hm => ?_⟩
  · exact linkCommand_unmoved hs (postAnswer_active range hf (.inl h))
  · exact linkCommand_unmoved hs (postAnswer_active range hf (.inr ⟨h, hm⟩))
  · have owner := postAnswer_free (patience := patience) range hf h
    have entry : (setSlot slot.toNat (postedEntry cause linger patience rails) s).slot slot.toNat
        = postedEntry cause linger patience rails := slot_setSlot s _ _ (by omega)
    obtain ⟨t, taken, ht, pl, slots, others⟩ := postCause_triggers hs (.inr ⟨_, rfl⟩) owner inside h16
    refine ⟨t, taken, pl, ?_, others, fun hm => ?_, ?_, ?_⟩
    · rw [slots, entry, triggered_idle rfl]
      rfl
    · rw [ht]
      exact trigger_held _ _ (by rw [entry]; rfl) hm
    · rw [ht]
      simp [changesOnly_iff]
    · rw [ht]
      exact trigger_wantFrame (setSlot slot.toNat (postedEntry cause linger patience rails) s) _
  · have owner := postAnswer_again (patience := patience) range hf (.inl h)
    obtain ⟨t, taken, ht, pl, slots, others⟩ := postCause_triggers hs (.inl rfl) owner inside h16
    refine ⟨t, taken, pl, slots.trans (triggered_pending h), others, ?_⟩
    rw [ht, trigger_of_not_idle _ _ (by simp [h])]
    simp [changesOnly_iff]
  · have owner := postAnswer_again (patience := patience) range hf (.inr ⟨h, hm⟩)
    obtain ⟨t, taken, ht, pl, slots, others⟩ := postCause_triggers hs (.inl rfl) owner inside h16
    refine ⟨t, taken, pl, slots.trans (triggered_momentary h hm), others, ?_⟩
    rw [ht, trigger_of_not_idle _ _ (by simp [h])]
    simp [changesOnly_iff]

end Sys2Proof.Machine

namespace Sys2Proof.Machine

/-! ## RELEASE_CAUSE (R67, R78, R79) -/

/-- An evaluation of need never switches RAILA off (R112, R115). -/
theorem evaluateNeed_raila {s : State} (h : s.mpc.raila = true) : (evaluateNeed s).mpc.raila = true := by
  simp only [evaluateNeed]
  split
  · exact h
  · split
    · split <;> simp [recordNeed, enterPowering, Mpc.moveTo, h]
    · simp [recordNeed, h]
    · simp only [evaluateOn]
      split <;> simp [enterParking, Mpc.moveTo]
    · split <;> simp [recordNeed, cancelPark, Mpc.moveTo, h]
    · split <;> simp [recordNeed, overrideCut, enterPowering, Mpc.moveTo, h]

theorem reportCause_raila {s : State} (c : Cause) (h : s.mpc.raila = true) : (reportCause c s).mpc.raila = true :=
  iteInduction (motive := fun t : State => t.mpc.raila = true) (fun _ => evaluateNeed_raila h) fun _ => h

section Release

variable {s : State} {i : Nat}

/-- The release of an Idle cause: its slot is set alone, with no want and no report. -/
theorem releaseSlot_idle (h : (s.slot i).state = .idle) : releaseSlot i s = setSlot i (s.slot i).toIdle s := if_pos h

/-- The release of any other cause raises a Status want, and a holding one is reported (R67, R78, R79). -/
theorem releaseSlot_active (h : (s.slot i).state ≠ .idle) : releaseSlot i s
    = if (s.slot i).holding then reportCause (s.slot i) (raiseStatus (setSlot i (s.slot i).toIdle s))
      else raiseStatus (setSlot i (s.slot i).toIdle s) := if_neg h

/-- Whatever the state of the cause: its slot goes to Idle, and nothing is raised but a Status want and what the report
raises. -/
theorem releaseSlot_spec (i : Nat) (s : State) : (releaseSlot i s).ct = (setSlot i (s.slot i).toIdle s).ct
    ∧ raisesOnly s (releaseSlot i s) ∧ wantsOnly s (releaseSlot i s)
    ∧ (s.mpc.raila = true → (releaseSlot i s).mpc.raila = true) := by
  by_cases h : (s.slot i).state = .idle
  · rw [releaseSlot_idle h]
    exact ⟨rfl, setSlot_raisesOnly i _ s, wantsOnly_of_eq (by simp) (by simp) (by simp), fun hr => by simpa using hr⟩
  · rw [releaseSlot_active h]
    split
    · obtain ⟨raises, wants⟩ := endCause_raises (i := i) (s.slot i) (s.slot i).toIdle s
      exact ⟨by simp, raises, wants, fun hr => reportCause_raila _ (by simpa using hr)⟩
    · exact ⟨by simp, raisesOnly_trans (setSlot_raisesOnly i _ s) (raiseStatus_raisesOnly _),
        wantsOnly_trans (wantsOnly_of_eq (by simp) (by simp) (by simp)) (raiseStatus_wantsOnly _),
        fun hr => by simpa using hr⟩

/-- The release of a cause that is not Idle is a Member's Status want. -/
theorem releaseSlot_held (h : (s.slot i).state ≠ .idle) (hm : s.mc.state = .member) :
    (releaseSlot i s).re.status.held = true := by
  have raised : (raiseStatus (setSlot i (s.slot i).toIdle s)).re.status.held = true :=
    raiseStatus_held _ (by simpa using hm)
  rw [releaseSlot_active h]
  split
  · exact (reportCause_wantsOnly _ _).2.2.2.1 raised
  · exact raised

end Release

section ReleaseAnswer

variable {s : State} {slot : Byte}

theorem releaseAnswer_outOfRange (h : slot.toNat < 7 ∨ 15 < slot.toNat) (s : State) :
    releaseAnswer slot s = outOfRange s := by
  refine if_pos ?_
  simp only [postedSlot, Bool.not_eq_true', Bool.and_eq_false_iff, decide_eq_false_iff_not]
  omega

theorem releaseAnswer_posted (h7 : 7 ≤ slot.toNat) (h15 : slot.toNat ≤ 15) : releaseAnswer slot s
    = if (s.slot slot.toNat).state = .disabled then wrongState s else done (releaseSlot slot.toNat s) := by
  refine if_neg ?_
  simp [postedSlot, h7, h15]

end ReleaseAnswer

/-- Settles O56. -/
theorem releaseCauseGoesIdle : Obligations.ReleaseCauseGoesIdle := by
  intro s slot hs h16
  refine ⟨fun h => linkCommand_unmoved hs (releaseAnswer_outOfRange h s), fun h7 h15 h => ?_, fun h7 h15 h => ?_⟩
  · exact linkCommand_unmoved hs ((releaseAnswer_posted h7 h15).trans (if_pos h))
  · have owner := (releaseAnswer_posted (s := s) h7 h15).trans (if_neg h)
    obtain ⟨ct, raises, wants, raila⟩ := releaseSlot_spec slot.toNat s
    have taken := linkCommand_answers (owner := releaseAnswer slot) hs
      (by rw [owner]; exact raila (linkReady_raila s hs))
    rw [owner] at taken
    have slots : ∀ j, (releaseSlot slot.toNat s).slot j = (setSlot slot.toNat (s.slot slot.toNat).toIdle s).slot j :=
      slot_congr (by rw [ct])
    obtain ⟨want, notice⟩ := frames_of_raises raises wants
    refine ⟨_, taken, ?_⟩
    simp only [done, withAnswer_frame, withAnswer_pl, withAnswer_slot, wantFrame, noticeFrame, slots]
    refine ⟨rfl, by simp, slot_setSlot s _ _ (by omega), fun j hj => slot_setSlot_ne s _ _ _ hj.symm, by rw [ct]; rfl,
      by simp, by simp, by simp, by simp, want, notice, releaseSlot_held, fun idle => ?_⟩
    rw [releaseSlot_idle idle]
    simp

end Sys2Proof.Machine

namespace Sys2Proof.Machine

/-! ## SENSE_FILTERED_EDGE (R61, R62, R68, R70) -/

section Follow

variable {c : Cause} {active : Bool}

/-- A Level-mode cause goes Lingering when its source ends (R70). -/
theorem follow_ends (h : c.state = .held) (hm : c.mode = .level) : c.follow false = c.toLingering := by
  simp [Cause.follow, h, hm]

/-- A Level-mode cause is Held again when its source returns (R70). -/
theorem follow_returns (h : c.state = .lingering) (hm : c.mode = .level) :
    c.follow true = { c with state := .held, countdown := 0 } := by
  simp [Cause.follow, h, hm]

/-- In every other case a cause stands when its source is read. -/
theorem follow_stands (h : c.mode = .momentary ∨ c.holding = false ∨ c.state = .held ∧ active = true
    ∨ c.state = .lingering ∧ active = false) : c.follow active = c := by
  simp only [Cause.follow]
  split
  next hm =>
    split
    next hs => rcases h with h | h | h | h <;> simp_all [Cause.holding]
    next hs => rcases h with h | h | h | h <;> simp_all [Cause.holding]
    · rfl
  · rfl

end Follow

section Edge

variable (s : State) (k : Nat) (b : Bool)

/-- The filtered level of an input is taken. -/
def edgeSensed : State := s.withCt { s.ct with sense := s.ct.sense.set k ⟨b, 0⟩ }

/-- Then a matching edge triggers the slot of the same number. -/
def edgeTriggered : State := if s.settings.edgeMatches k b then trigger k (edgeSensed s k b) else edgeSensed s k b

/-- Last the cause follows its source. -/
theorem filteredEdge_eq (h : (s.ct.sense.getD k ⟨false, 0⟩).filtered ≠ b) :
    filteredEdge k b s = followSource k (edgeTriggered s k b) := if_neg h

/-- A sense cause after the trigger of an edge that matches or not. -/
def Cause.edged (c : Cause) (hit : Bool) : Cause := if hit then c.triggered else c

@[simp] theorem edged_hit (c : Cause) : c.edged true = c.triggered := rfl

@[simp] theorem edged_miss (c : Cause) : c.edged false = c := rfl

theorem edgeTriggered_slot (h : k < s.ct.slots.length) :
    (edgeTriggered s k b).slot k = (s.slot k).edged (s.settings.edgeMatches k b) := by
  simp only [edgeTriggered]
  split
  next hit =>
    rw [hit]
    exact trigger_slot (edgeSensed s k b) k h
  next miss =>
    rw [Bool.eq_false_iff.2 miss]
    rfl

/-- Besides its slot an edge touches its input's filter alone. -/
theorem edgeTriggered_ct : (edgeTriggered s k b).ct.sense = s.ct.sense.set k ⟨b, 0⟩
    ∧ (edgeTriggered s k b).ct.timers = s.ct.timers ∧ (edgeTriggered s k b).ct.offers = s.ct.offers
    ∧ (edgeTriggered s k b).ct.slots.length = s.ct.slots.length := by
  simp only [edgeTriggered]
  split <;> simp [trigger_ct, edgeSensed]

theorem edgeTriggered_settings : (edgeTriggered s k b).settings = s.settings := by
  simp only [edgeTriggered]
  split
  · exact settings_congr _ _ (by simp [edgeSensed]) (by simp [edgeSensed])
  · rfl

/-- The source of a sense cause after an edge: active at the input's active level (R62). -/
theorem edgeTriggered_source (hk : k < 4) (h : k < s.ct.sense.length) :
    (edgeTriggered s k b).sourceActive k = (b == s.settings.activeHigh k) := by
  simp [State.sourceActive, hk, edgeTriggered_settings, (edgeTriggered_ct s k b).1, List.getD_eq_getElem?_getD, h]

/-- What an edge raises: the want of its trigger, and what the report to the MPC raises. -/
theorem followSource_raises (i : Nat) (s : State) :
    raisesOnly s (followSource i s) ∧ wantsOnly s (followSource i s) := by
  simp only [followSource]
  split
  · exact ⟨raisesOnly_refl s, wantsOnly_refl s⟩
  · exact ⟨raisesOnly_trans (setSlot_raisesOnly _ _ s) (reportCause_raisesOnly _ _),
      wantsOnly_trans (wantsOnly_of_eq (by simp) (by simp) (by simp)) (reportCause_wantsOnly _ _)⟩

theorem followSource_ct (i : Nat) (s : State) : (followSource i s).ct
    = { s.ct with slots := s.ct.slots.set i ((s.slot i).follow (s.sourceActive i)) } := by
  simp only [followSource]
  split
  next same =>
    rw [same]
    exact congrArg State.ct (setSlot_self i s).symm
  next => simp

theorem followSource_slot (i : Nat) (s : State) (h : i < s.ct.slots.length) :
    (followSource i s).slot i = (s.slot i).follow (s.sourceActive i) := by
  simp [State.slot, followSource_ct, List.getD_eq_getElem?_getD, h]

theorem followSource_slot_ne {i j : Nat} (s : State) (h : j ≠ i) : (followSource i s).slot j = s.slot j := by
  simp [State.slot, followSource_ct, List.getD_eq_getElem?_getD, List.getElem?_set_ne h.symm]

end Edge

section FilteredEdge

variable {s : State} {k : Nat} {b : Bool}

/-- What a filtered edge does to the CT, and what it raises, whatever the state of its cause. -/
theorem filteredEdge_spec (hk : k < 4) (h16 : s.ct.slots.length = 16) (h4 : s.ct.sense.length = 4)
    (h : (s.ct.sense.getD k ⟨false, 0⟩).filtered ≠ b) :
    (filteredEdge k b s).slot k
        = ((s.slot k).edged (s.settings.edgeMatches k b)).follow (b == s.settings.activeHigh k)
      ∧ (filteredEdge k b s).ct.sense = s.ct.sense.set k ⟨b, 0⟩
      ∧ (∀ j, j ≠ k → (filteredEdge k b s).slot j = s.slot j)
      ∧ (filteredEdge k b s).ct.timers = s.ct.timers ∧ (filteredEdge k b s).ct.offers = s.ct.offers
      ∧ wantFrame s (filteredEdge k b s) ∧ noticeFrame s (filteredEdge k b s) := by
  obtain ⟨sense, timers, offers, length⟩ := edgeTriggered_ct s k b
  have others : ∀ j, j ≠ k → (edgeTriggered s k b).slot j = s.slot j := fun j hj => by
    simp only [edgeTriggered]
    split
    · exact trigger_slot_ne (edgeSensed s k b) hj.symm
    · rfl
  have sensed : raisesOnly s (edgeSensed s k b) ∧ wantsOnly s (edgeSensed s k b) :=
    ⟨raisesOnly_of_eq rfl rfl rfl rfl, wantsOnly_of_eq rfl rfl rfl⟩
  have raised : raisesOnly s (edgeTriggered s k b) ∧ wantsOnly s (edgeTriggered s k b) :=
    iteInduction (motive := fun t => raisesOnly s t ∧ wantsOnly s t)
      (fun _ => ⟨raisesOnly_trans sensed.1 (trigger_raisesOnly _ _), wantsOnly_trans sensed.2 (trigger_wantsOnly _ _)⟩)
      fun _ => sensed
  obtain ⟨follows, wants⟩ := followSource_raises k (edgeTriggered s k b)
  obtain ⟨want, notice⟩ := frames_of_raises (raisesOnly_trans raised.1 follows) (wantsOnly_trans raised.2 wants)
  rw [filteredEdge_eq s k b h]
  refine ⟨?_, ?_, fun j hj => (followSource_slot_ne _ hj).trans (others j hj), ?_, ?_, want, notice⟩
  · rw [followSource_slot _ _ (by omega), edgeTriggered_slot s k b (by omega), edgeTriggered_source s k b hk (by omega)]
  all_goals simpa only [followSource_ct]

/-- Where the cause stands after its trigger when its source is read, the edge is that trigger alone. -/
theorem filteredEdge_of_stands (hk : k < 4) (h16 : s.ct.slots.length = 16) (h4 : s.ct.sense.length = 4)
    (h : (s.ct.sense.getD k ⟨false, 0⟩).filtered ≠ b)
    (stands : ((s.slot k).edged (s.settings.edgeMatches k b)).follow (b == s.settings.activeHigh k)
      = (s.slot k).edged (s.settings.edgeMatches k b)) : filteredEdge k b s = edgeTriggered s k b := by
  rw [filteredEdge_eq s k b h]
  refine if_pos ?_
  rw [edgeTriggered_slot s k b (by omega), edgeTriggered_source s k b hk (by omega), stands]

/-- An edge that triggers no Idle cause touches the CT alone. -/
theorem edgeTriggered_quiet (h : (s.slot k).state ≠ .idle ∨ s.settings.edgeMatches k b = false) :
    changesOnly [.ct] s (edgeTriggered s k b) := by
  have sensed : changesOnly [.ct] s (edgeSensed s k b) := by simp [changesOnly_iff, edgeSensed]
  refine iteInduction (motive := changesOnly [.ct] s) (fun hit => ?_) fun _ => sensed
  rw [trigger_of_not_idle (edgeSensed s k b) k (h.resolve_right (by simp [hit]))]
  exact changesOnly_trans sensed (setSlot_changesOnly _ _ _)

/-- The trigger of an Idle cause touches the CT and raises a Status want. -/
theorem edgeTriggered_idle (h : (s.slot k).state = .idle) (hit : s.settings.edgeMatches k b = true) :
    changesOnly [.ct, .re, .mc] s (edgeTriggered s k b)
      ∧ (s.mc.state = .member → (edgeTriggered s k b).re.status.held = true) := by
  have sensed : changesOnly [.ct, .re, .mc] s (edgeSensed s k b) := by simp [changesOnly_iff, edgeSensed]
  rw [edgeTriggered, if_pos hit]
  exact ⟨changesOnly_trans sensed (trigger_changesOnly _ _), fun hm => trigger_held (edgeSensed s k b) k h hm⟩

end FilteredEdge

end Sys2Proof.Machine

namespace Sys2Proof.Machine

section EdgeCases

variable {s : State} {k : Nat} {b : Bool}

/-- A matching edge at an Idle cause is its trigger alone (R62, R68). -/
theorem filteredEdge_idle (hk : k < 4) (h16 : s.ct.slots.length = 16) (h4 : s.ct.sense.length = 4)
    (h : (s.ct.sense.getD k ⟨false, 0⟩).filtered ≠ b) (hs : (s.slot k).state = .idle)
    (hit : s.settings.edgeMatches k b = true) : (filteredEdge k b s).slot k = (s.slot k).toPending
      ∧ (s.mc.state = .member → (filteredEdge k b s).re.status.held = true)
      ∧ changesOnly [.ct, .re, .mc] s (filteredEdge k b s) := by
  have pending : ((s.slot k).edged (s.settings.edgeMatches k b)) = (s.slot k).toPending := by
    rw [hit, edged_hit, triggered_idle hs]
  have stands := filteredEdge_of_stands hk h16 h4 h (by rw [pending]; exact follow_stands (.inr (.inl rfl)))
  obtain ⟨changes, held⟩ := edgeTriggered_idle hs hit
  rw [stands]
  exact ⟨(edgeTriggered_slot s k b (by omega)).trans pending, held, changes⟩

/-- Where no Idle cause is triggered, and the cause stands when its source is read, nothing but the CT changes. -/
theorem filteredEdge_quiet (hk : k < 4) (h16 : s.ct.slots.length = 16) (h4 : s.ct.sense.length = 4)
    (h : (s.ct.sense.getD k ⟨false, 0⟩).filtered ≠ b) {c : Cause}
    (quiet : (s.slot k).state ≠ .idle ∨ s.settings.edgeMatches k b = false)
    (edged : (s.slot k).edged (s.settings.edgeMatches k b) = c) (stands : c.follow (b == s.settings.activeHigh k) = c) :
    (filteredEdge k b s).slot k = c ∧ changesOnly [.ct] s (filteredEdge k b s) := by
  subst edged
  rw [filteredEdge_of_stands hk h16 h4 h stands]
  exact ⟨edgeTriggered_slot s k b (by omega), edgeTriggered_quiet quiet⟩

/-- A cause that an edge does not trigger, whether the edge matches or not. -/
theorem edged_stands {c : Cause} (hit : Bool) (h : c.triggered = c) : c.edged hit = c := by cases hit <;> simp [h]

/-- The input's filter after an edge, and the filters of the other inputs. -/
theorem sense_set (l : List Sense) {k : Nat} (x d : Sense) (h : k < l.length) :
    (l.set k x).getD k d = x ∧ ∀ j, j ≠ k → (l.set k x)[j]? = l[j]? :=
  ⟨by simp [List.getD_eq_getElem?_getD, h], fun _ hj => List.getElem?_set_ne hj.symm⟩

end EdgeCases

/-- The level that the filter of an input followed is now the pin's level (log 26). -/
def sensePinned (s : State) (k : Nat) (b : Bool) : State := s.withPins { s.pins with sns := s.pins.sns.set k b }

theorem exec_senseFilteredEdge (k : Fin 4) (b : Bool) (s : State) : exec (.senseFilteredEdge k b) s
    = gated s fun s => filteredEdge k.val b (sensePinned s k.val b) := rfl

/-- Settles O31: the trigger of the edge first, then what the cause does when its source is read. -/
theorem senseEdgeTriggersItsSlot : Obligations.SenseEdgeTriggersItsSlot := by
  intro s k b hr h16 h4 hb
  refine ⟨_, (exec_senseFilteredEdge k b s).trans (gated_of_rstN s _ hr), ?_⟩
  have spec := filteredEdge_spec (s := sensePinned s k.val b) k.isLt h16 h4 hb
  have idle := filteredEdge_idle (s := sensePinned s k.val b) k.isLt h16 h4 hb
  have still := @filteredEdge_quiet (sensePinned s k.val b) k.val b k.isLt h16 h4 hb
  have frame := filteredEdge_frame (sensePinned s k.val b) k.val b
  generalize filteredEdge k.val b (sensePinned s k.val b) = t at *
  obtain ⟨slot, sense, others, timers, offers, want, notice⟩ := spec
  obtain ⟨lif, ev, cu, pins, -⟩ := frame
  obtain ⟨taken, kept⟩ := sense_set s.ct.sense (k := k.val) ⟨b, 0⟩ ⟨false, 0⟩ (by omega)
  have quiet : ∀ c : Cause, (s.slot k.val).state ≠ .idle ∨ s.settings.edgeMatches k.val b = false →
      (s.slot k.val).edged (s.settings.edgeMatches k.val b) = c → c.follow (b == s.settings.activeHigh k.val) = c →
      t.slot k.val = c ∧ changesOnly [.ct, .pins] s t := fun _ hq he hf =>
    (still hq he hf).imp_right changesOnly_of_withPins
  have triggers : ∀ c : Cause, s.settings.edgeMatches k.val b = true → (s.slot k.val).triggered = c →
      (s.slot k.val).edged (s.settings.edgeMatches k.val b) = c := fun c hit hc => by rw [hit, edged_hit, hc]
  have misses : s.settings.edgeMatches k.val b = false →
      (s.slot k.val).edged (s.settings.edgeMatches k.val b) = s.slot k.val := fun miss => by rw [miss, edged_miss]
  have followed : (s.slot k.val).triggered = s.slot k.val →
      t.slot k.val = (s.slot k.val).follow (b == s.settings.activeHigh k.val) := fun h =>
    slot.trans (congrArg (Cause.follow · _) (edged_stands _ h))
  rw [sense]
  refine ⟨taken, fun j hj => ⟨others j hj, kept j hj⟩, timers, offers, lif, ev, cu, pins, want,
    notice, fun hs hit => ?_, fun hs hit => ?_, fun hs => ?_, fun hs hm ha => ?_, fun hs hm ha => ?_,
    fun hs hm hit => ?_, fun h => ?_⟩
  · obtain ⟨pending, held, changes⟩ := idle hs hit
    exact ⟨pending, held, changesOnly_of_withPins changes⟩
  · exact quiet _ (.inl (by simp [hs])) (triggers _ hit (triggered_pending hs))
      (follow_stands (.inr (.inl (by simp [Cause.holding, hs]))))
  · exact quiet _ (.inl (by simp [hs])) (edged_stands _ (triggered_disabled hs))
      (follow_stands (.inr (.inl (by simp [Cause.holding, hs]))))
  · rw [followed (triggered_held hs), beq_eq_false_iff_ne.2 ha]
    exact follow_ends hs hm
  · rw [followed (triggered_level hs hm), beq_iff_eq.2 ha]
    exact follow_returns hs hm
  · exact quiet _ (.inl (by simp [hs])) (triggers _ hit (triggered_momentary hs hm)) (follow_stands (.inl hm))
  · rcases h with ⟨hs, miss⟩ | ⟨hs, h⟩ | ⟨hs, ⟨hm, miss⟩ | ⟨hm, ha⟩⟩
    · exact quiet _ (.inr miss) (misses miss)
        (follow_stands (.inr (.inl (by rcases hs with hs | hs <;> simp [Cause.holding, hs]))))
    · refine quiet _ (.inl (by simp [hs])) (edged_stands _ (triggered_held hs)) (follow_stands ?_)
      exact h.imp_right fun ha => .inr (.inl ⟨hs, beq_iff_eq.2 ha⟩)
    · exact quiet _ (.inr miss) (misses miss) (follow_stands (.inl hm))
    · exact quiet _ (.inl (by simp [hs])) (edged_stands _ (triggered_level hs hm))
        (follow_stands (.inr (.inr (.inr ⟨hs, beq_eq_false_iff_ne.2 ha⟩))))

end Sys2Proof.Machine

namespace Sys2Proof.Machine

/-! ## The bytes of the records (R197, R202)

Each code, flag byte and number of a record as the statement writes it: a conditional, a sum, a quotient. -/

theorem Membership.code_eq (m : Membership) : m.code = if m = .unconfigured then 0 else if m = .joining then 1
    else if m = .member then 2 else if m = .degraded then 3 else 4 := by cases m <;> rfl

theorem faultCode_eq (f : Option LineFault) : faultCode f = if f = none then 0 else if f = some .duplicate then 1
    else if f = some .profile then 2 else if f = some .stuckLine then 3 else if f = some .driveFault then 4
    else if f = some .voidRun then 5 else 6 := by
  cases f with
  | none => rfl
  | some f => cases f <;> rfl

theorem NetState.code_eq (n : NetState) : n.code = if n = .rest then 0 else if n = .awake then 1 else 2 := by
  cases n <;> rfl

theorem ModuleState.code_eq (m : ModuleState) : m.code = if m = .off then 0 else if m = .powering then 1
    else if m = .on then 2 else if m = .parking then 3 else 4 := by cases m <;> rfl

theorem ClockState.code_eq (c : ClockState) : c.code = if c = .stopped then 0 else if c = .settling then 1
    else if c = .running then 2 else 3 := by cases c <;> rfl

theorem CensusState.code_eq (c : CensusState) : c.code = if c = .idle then 0 else if c = .waiting then 1
    else if c = .running then 2 else if c = .complete then 3 else 4 := by cases c <;> rfl

/-- The number of a cause's state (R202). -/
def CauseState.number (c : CauseState) : Nat := if c = .disabled then 0 else if c = .idle then 1
  else if c = .pending then 2 else if c = .held then 3 else 4

/-- The state and the self rails of a cause share a byte; of the rails code the low two bits show (log 31). -/
theorem stateByte_eq (c : CauseState) (r : Byte) :
    (c.code <<< 4) ||| (r &&& 3) = BitVec.ofNat 8 (16 * c.number + r.toNat % 4) := by
  have low : r &&& 3 = BitVec.ofNat 8 (r.toNat % 4) := by
    refine BitVec.eq_of_toNat_eq ?_
    have masked : r.toNat &&& 3 = r.toNat % 4 := Nat.and_two_pow_sub_one_eq_mod r.toNat 2
    simp [BitVec.toNat_and, masked]
    omega
  have small : r.toNat % 4 < 4 := Nat.mod_lt _ (by decide)
  rw [low]
  generalize r.toNat % 4 = m at small
  cases c <;> interval_cases m <;> rfl

theorem nibbles_zero (x : Fin 8) : nibbles 0 x = BitVec.ofNat 8 x.val := congrArg (BitVec.ofNat 8) (Nat.zero_add _)

section Flags

variable (a b c d e f : Bool)

theorem flagBit_false (k : Nat) : flagBit k false = 0#8 := rfl

theorem six_flags : flagBit 0 a ||| flagBit 1 b ||| flagBit 2 c ||| flagBit 3 d ||| flagBit 4 e ||| flagBit 5 f
    = BitVec.ofNat 8 (a.toNat + 2 * b.toNat + 4 * c.toNat + 8 * d.toNat + 16 * e.toNat + 32 * f.toNat) := by
  decide +revert

theorem five_flags : flagBit 0 a ||| flagBit 1 b ||| flagBit 2 c ||| flagBit 3 d ||| flagBit 4 e
    = BitVec.ofNat 8 (a.toNat + 2 * b.toNat + 4 * c.toNat + 8 * d.toNat + 16 * e.toNat) := by
  simpa only [flagBit_false, BitVec.or_zero, Bool.toNat_false, Nat.mul_zero, Nat.add_zero]
    using six_flags a b c d e false

theorem four_flags : flagBit 0 a ||| flagBit 1 b ||| flagBit 2 c ||| flagBit 3 d
    = BitVec.ofNat 8 (a.toNat + 2 * b.toNat + 4 * c.toNat + 8 * d.toNat) := by
  simpa only [flagBit_false, BitVec.or_zero, Bool.toNat_false, Nat.mul_zero, Nat.add_zero]
    using five_flags a b c d false

theorem two_flags : flagBit 0 a ||| flagBit 1 b = BitVec.ofNat 8 (a.toNat + 2 * b.toNat) := by
  simpa only [flagBit_false, BitVec.or_zero, Bool.toNat_false, Nat.mul_zero, Nat.add_zero]
    using four_flags a b false false

end Flags

section Numbers

variable (n : Nat)

theorem bytesOfNat_two : bytesOfNat 2 n = [BitVec.ofNat 8 (n / 256), BitVec.ofNat 8 n] := by
  simp [bytesOfNat]

theorem bytesOfNat_three :
    bytesOfNat 3 n = [BitVec.ofNat 8 (n / 65536), BitVec.ofNat 8 (n / 256), BitVec.ofNat 8 n] := by
  simp [bytesOfNat]

theorem bytesOfNat_four : bytesOfNat 4 n
    = [BitVec.ofNat 8 (n / 2 ^ 24), BitVec.ofNat 8 (n / 2 ^ 16), BitVec.ofNat 8 (n / 2 ^ 8), BitVec.ofNat 8 n] := by
  simp [bytesOfNat]

theorem bytesOfNat_six : bytesOfNat 6 n = [BitVec.ofNat 8 (n / 2 ^ 40), BitVec.ofNat 8 (n / 2 ^ 32),
    BitVec.ofNat 8 (n / 2 ^ 24), BitVec.ofNat 8 (n / 2 ^ 16), BitVec.ofNat 8 (n / 2 ^ 8), BitVec.ofNat 8 n] := by
  simp [bytesOfNat]

/-- A two-byte value shows its high byte, then its low byte (R197). -/
theorem bytesOfNat_half (x : Half) : bytesOfNat 2 x.toNat = [x.extractLsb' 8 8, x.extractLsb' 0 8] := by
  have high : BitVec.ofNat 8 (x.toNat / 256) = x.extractLsb' 8 8 :=
    BitVec.eq_of_toNat_eq (by simp [Nat.shiftRight_eq_div_pow])
  have low : BitVec.ofNat 8 x.toNat = x.extractLsb' 0 8 := BitVec.eq_of_toNat_eq (by simp)
  rw [bytesOfNat_two, high, low]

theorem setWidth_byte {w : Nat} (x : BitVec w) : x.setWidth 8 = BitVec.ofNat 8 x.toNat :=
  BitVec.eq_of_toNat_eq (by simp)

end Numbers

/-! ### The records -/

theorem Cause.byte_eq (c : Cause) :
    c.byte = BitVec.ofNat 8 (32 * c.level.val + 4 * c.cls.val + if c.mode = .level then 2 else 0) := by
  have shown : ∀ (l k : Fin 8), BitVec.ofNat 8 (32 * l.val + 4 * k.val) ||| flagBit 1 true
      = BitVec.ofNat 8 (32 * l.val + 4 * k.val + 2) := by decide
  cases hm : c.mode with
  | level => simpa [Cause.byte, hm] using shown c.level c.cls
  | momentary =>
    rw [Cause.byte, hm]
    exact BitVec.or_zero

theorem Cause.record_eq : Cause.record = fun c => [c.byte, c.linger, c.patience,
    BitVec.ofNat 8 (16 * c.state.number + c.rails.toNat % 4),
    BitVec.ofNat 8 (c.offered.toNat + 2 * c.merged.toNat + 4 * c.expiryHeld.toNat + 8 * c.opened.isSome.toNat),
    BitVec.ofNat 8 (c.countdown / 256), BitVec.ofNat 8 c.countdown,
    (c.opened.getD 0).extractLsb' 8 8, (c.opened.getD 0).extractLsb' 0 8] := by
  funext c
  rw [Cause.record, bytesOfNat_half, bytesOfNat_two, stateByte_eq, four_flags]
  rfl

theorem WakeTimer.record_eq : WakeTimer.record = fun w => [
    BitVec.ofNat 8 (w.count / 65536), BitVec.ofNat 8 (w.count / 256), BitVec.ofNat 8 w.count,
    BitVec.ofNat 8 (w.reload / 65536), BitVec.ofNat 8 (w.reload / 256), BitVec.ofNat 8 w.reload,
    BitVec.ofNat 8 (w.periodic.toNat + 2 * w.running.toNat)] := by
  funext w
  rw [WakeTimer.record, bytesOfNat_three, bytesOfNat_three, two_flags]
  rfl

theorem Entry.record_eq : Entry.record = fun x => [BitVec.ofNat 8 x.level.val,
    BitVec.ofNat 8 (x.exclusive.toNat + 2 * x.suspended.toNat + 4 * x.own.toNat + 8 * x.learned.toNat
      + 16 * x.opened.isSome.toNat + 32 * x.classes.isSome.toNat),
    (x.opened.getD 0).extractLsb' 8 8, (x.opened.getD 0).extractLsb' 0 8, x.classes.getD 0] := by
  funext x
  rw [Entry.record, bytesOfNat_half, six_flags, nibbles_zero]
  rfl

section Reads

variable {s : State}

/-- A read answers Done with its record and changes nothing else (R190). -/
theorem linkCommand_reads {record : State → List Byte} {r : List Byte} (hs : s.linkReady) (hr : record s = r) :
    linkCommand (fun s => reads (record s) s) s = .next (s.withAnswer 0xA1 r) :=
  hr ▸ linkCommand_unmoved (owner := fun s => reads (record s) s) hs rfl

/-- A census is read once the configuration is fixed (R169). -/
theorem linkCommand_readCensus (hs : s.linkReady) : exec .readCensus s
    = .next (if s.fixed then s.withAnswer 0xA1 s.cu.record else s.withAnswer 0xC3 []) := by
  cases hf : s.fixed with
  | true => exact linkCommand_unmoved hs (if_pos hf)
  | false => exact linkCommand_unmoved hs (if_neg (by simp [hf]))

/-- The flags returned set are marked clearing, and the event word is the answer (R194, R203). -/
theorem exec_readAndClearEvents (hs : s.linkReady) : exec .readAndClearEvents s
    = .next ((markClearing s).withAnswer 0xA1 (bytesOfNat 2 s.pl.events.toNat)) :=
  linkCommand_answers (owner := fun s => reads (bytesOfNat 2 s.pl.events.toNat) (markClearing s)) hs
    (linkReady_raila s hs)

/-- LSO shows the answer of the command taken, and 0 after it (R182, R197). -/
theorem withAnswer_lso (hr : s.mpc.raila = true) (hl : s.pins.lcs = true) (x : Byte) (b : List Byte) (k : Nat) :
    (s.withAnswer x b).lso k = some ((x :: b).getD k 0) := by
  simp [State.lso, hr, hl, Txn.lsoByte]

end Reads

/-- Settles O50: each record is read through its bytes. -/
theorem readsAnswerWithTheirRecords : Obligations.ReadsAnswerWithTheirRecords := by
  refine ⟨fun s hs => linkCommand_reads hs ?_, fun s hs => linkCommand_reads (record := fun s => s.ct.record) hs ?_,
    fun s hs => linkCommand_reads hs ?_, fun s hs => linkCommand_reads hs ?_,
    fun s hs => ⟨fun hf => ?_, fun hf => ?_⟩, fun s hs => ?_, fun s x b hr hl => ⟨?_, fun k => ?_⟩⟩
  · simp only [State.statusRecord, Membership.code_eq, bytesOfNat_half, five_flags, faultCode_eq, NetState.code_eq,
      nibbles, ModuleState.code_eq, ClockState.code_eq, List.cons_append, List.nil_append]
  · simp only [Ct.record, Cause.record_eq, Cause.byte_eq, WakeTimer.record_eq, CauseState.number]
  · simp only [State.episodeRecord, Entry.record_eq, nibbles, List.cons_append]
  · rw [State.drainRecord, nibbles_zero, nibbles, five_flags, bytesOfNat_six, bytesOfNat_four]
    simp only [bytesOfNat_two, List.append_assoc, List.cons_append, List.nil_append]
  · rw [linkCommand_readCensus hs, if_pos hf]
    simp only [Cu.record, CensusState.code_eq, nibbles_zero, two_flags, setWidth_byte]
  · rw [linkCommand_readCensus hs, hf]
    rfl
  · rw [exec_readAndClearEvents hs, bytesOfNat_half]
    rfl
  · exact withAnswer_lso hr hl x b 0
  · exact withAnswer_lso hr hl x b (k + 1)

end Sys2Proof.Machine

namespace Sys2Proof.Machine

/-! ## The episode table in order (R82, R84)

Every commit and every decision builds the table anew: the levels of a hold map, marked against E at the end. So a table
in order is made at each of them, and everything else leaves the table as it is. -/

theorem levels_pairwise_lt : levels.Pairwise (· < ·) := by decide

theorem resuspend_suspended (t : List Entry) :
    ∀ x ∈ resuspend t, x.suspended = decide (x.level < topExclusive (resuspend t)) := by
  intro x hx
  obtain ⟨y, -, rfl⟩ := List.mem_map.1 hx
  rw [topExclusive_resuspend]

/-- The levels of a hold map ascend from 1, so a table that holds just them is in order once it is marked. -/
theorem resuspend_tableOk {m : HoldMap} {t : List Entry}
    (hl : (resuspend t).map (·.level) = levels.filter (holdHas m)) : tableOk (resuspend t) := by
  have ascending : ((resuspend t).map (·.level)).Pairwise (· < ·) := hl ▸ levels_pairwise_lt.filter _
  refine ⟨List.pairwise_map.1 ascending, fun x hx hz => ?_, resuspend_suspended t⟩
  have held : x.level ∈ levels.filter (holdHas m) := hl ▸ List.mem_map_of_mem hx
  simp [hz, holdHas] at held

theorem tableOk_nil : tableOk [] := ⟨.nil, nofun, nofun⟩

section Table

variable {s t : State}

/-- The invariant speaks of the view's table alone. -/
theorem tableInv_congr (h : s.tableInv) (hx : t.ev.table = s.ev.table) : t.tableInv := by
  simpa only [State.tableInv, hx] using h

theorem tableInv_of_ev (h : s.tableInv) (hx : t.ev = s.ev) : t.tableInv := tableInv_congr h (by rw [hx])

theorem tableInv_of_nil (hx : t.ev.table = []) : t.tableInv := by
  rw [State.tableInv, hx]
  exact tableOk_nil

theorem raiseEvent_tableInv (e : Event) (h : s.tableInv) : (raiseEvent e s).tableInv := h

theorem evaluateNeed_tableInv (h : s.tableInv) : (evaluateNeed s).tableInv := tableInv_of_ev h (by simp)

/-! ### The view (R85 to R87, R95, R96, R107) -/

theorem evStatus_tableInv (v : StatusValues) (d : HoldMap) (o : Option Half) (s : State) :
    (evStatus v d o s).tableInv := by
  obtain ⟨-, -, levels, -⟩ := evStatus_ev s v d o
  simp only [State.tableInv, evStatus, setTable_ev] at levels ⊢
  exact resuspend_tableOk levels

theorem evRest_tableInv (m d : HoldMap) (b : Bool) (s : State) : (evRest m d b s).tableInv := by
  obtain ⟨-, -, levels⟩ := evRest_ev s m d b
  simp only [State.tableInv, evRest, setTable_ev] at levels ⊢
  exact resuspend_tableOk levels

theorem evAdmit_tableInv (m : HoldMap) (s : State) : (evAdmit m s).tableInv := by
  obtain ⟨levels, -⟩ := evAdmit_table s m
  simp only [State.tableInv, evAdmit, setTable_ev] at levels ⊢
  exact resuspend_tableOk levels

theorem evJoining_tableInv (s : State) : (evJoining s).tableInv := tableInv_of_nil (by simp [evJoining, Ev.cold])

/-! ### Local decisions and the local mode (R54 to R56, R107 to R109) -/

theorem localStatus_tableInv (s : State) : (localStatus s).tableInv := by
  have viewed : (localViewed s).tableInv := evStatus_tableInv _ _ _ _
  have refilled : (localRefilled s).tableInv :=
    tableInv_of_ev viewed (by unfold localRefilled; split <;> simp)
  exact tableInv_of_ev refilled (by simp [localStatus_eq, localPowered])

theorem localRest_tableInv (s : State) : (localRest s).tableInv :=
  evaluateNeed_tableInv (evRest_tableInv _ _ _ s)

theorem takeDueDecisions_tableInv (h : s.tableInv) : (takeDueDecisions s).tableInv := by
  have decided : (if s.mc.decisionDue then localStatus s else s).tableInv :=
    iteInduction (fun _ => localStatus_tableInv s) fun _ => h
  exact iteInduction (fun _ => iteInduction (fun _ => localRest_tableInv _) fun _ => decided) fun _ => h

/-- Whatever the table held, a local decision has built the one that local mode begins with. -/
theorem enterLocal_tableInv (s : State) : (enterLocal s).tableInv :=
  iteInduction (fun _ => localRest_tableInv _) fun _ => localStatus_tableInv _

theorem settleRunsOut_tableInv (h : s.tableInv) : (settleRunsOut s).tableInv := by
  have stopped : ∀ x, (s.withEv { s.ev with settle := x }).tableInv := fun _ => h
  refine iteInduction (fun _ => iteInduction (fun _ => ?_) fun _ => ?_) fun _ => h
  · exact iteInduction (fun _ => stopped _) fun _ => localRest_tableInv _
  · exact tableInv_of_ev (stopped none) (by simp)

theorem heartbeatRunsOut_tableInv (h : s.tableInv) : (heartbeatRunsOut s).tableInv :=
  iteInduction (fun _ => tableInv_congr h (by simp)) fun _ => h

/-! ### Line faults and outcomes -/

theorem reportFault_tableInv (f : LineFault) (h : s.tableInv) : (reportFault f s).tableInv := by
  simp only [reportFault]
  split
  · exact raiseEvent_tableInv _ (enterLocal_tableInv _)
  · exact iteInduction (fun _ => h) fun _ => raiseEvent_tableInv _ (enterLocal_tableInv _)
  · exact tableInv_of_ev h (by simp)
  all_goals exact h

theorem commitStatus_tableInv (r : RoundRecord) (s : State) : (commitStatus r s).tableInv :=
  tableInv_of_ev (s := statusViewed r s) (evStatus_tableInv _ _ _ _) (commitStatus_parts r s).1

theorem commitRest_tableInv (r : RoundRecord) (s : State) : (commitRest r s).tableInv :=
  evaluateNeed_tableInv (evRest_tableInv _ _ _ _)

theorem admitStation_tableInv (c : Half) (m : HoldMap) (s : State) : (admitStation c m s).tableInv :=
  tableInv_of_ev (evAdmit_tableInv m (raiseStatus (admitted s c))) (by simp [admitStation_eq, admittedView])

/-- A refused station that was in local mode keeps its table; from Joining it enters local mode (R44, R54). -/
theorem refuse_tableInv (f : LineFault) (b : Bool) (h : s.tableInv) : (refuse f b s).tableInv := by
  have recorded : (setDisagreement b (refused s f)).tableInv := tableInv_of_ev h (by simp [refused])
  rw [refuse_eq]
  exact raiseEvent_tableInv _ (iteInduction (fun _ => recorded) fun _ => enterLocal_tableInv _)

theorem commitJoin_tableInv (r : RoundRecord) (h : s.tableInv) : (commitJoin r s).tableInv := by
  refine iteInduction (fun _ => tableInv_of_ev h (by simp)) fun _ => ?_
  refine iteInduction (fun _ => refuse_tableInv _ _ h) fun _ => ?_
  exact iteInduction (fun _ => admitStation_tableInv _ _ s) fun _ => refuse_tableInv _ _ h

theorem commitRound_tableInv (r : RoundRecord) (h : s.tableInv) : (commitRound r s).tableInv := by
  have counted : (s.withRe { s.re with voids := 0 }).tableInv := h
  simp only [commitRound]
  split
  · exact commitStatus_tableInv r _
  · exact commitRest_tableInv r _
  · exact tableInv_of_ev counted (by simp)
  · exact commitJoin_tableInv r counted
  · exact counted

/-- What the line and the RE make the owners do keeps the table in order. -/
theorem tableInv_owners : OwnersKeep State.tableInv where
  lif _ h := h
  re _ h := h
  pins _ h := h
  offers h := tableInv_of_ev h (by simp)
  fault f := reportFault_tableInv f
  returns h := tableInv_of_ev h (by simp)
  commit r := commitRound_tableInv r

/-! ### The period and the entry to Joining -/

theorem countHeartbeat_tableInv (h : s.tableInv) : (countHeartbeat s).tableInv := by
  simp only [countHeartbeat]
  split
  · exact iteInduction (fun _ => heartbeatRunsOut_tableInv h) fun _ => h
  · exact h

theorem countSettle_tableInv (h : s.tableInv) : (countSettle s).tableInv := by
  simp only [countSettle]
  split
  · exact iteInduction (fun _ => settleRunsOut_tableInv h) fun _ => h
  · exact h

/-- Of the counts of a tick the heartbeat's and the settle timer's alone touch the view. -/
theorem tickCounts_tableInv : ∀ f ∈ tickCounts, ∀ t : State, t.tableInv → (f t).tableInv := by
  intro f hf t h
  simp only [tickCounts, List.mem_append, List.mem_map, List.mem_cons, List.not_mem_nil, or_false] at hf
  rcases hf with ⟨i, -, rfl⟩ | rfl | rfl | rfl | rfl | rfl | rfl | rfl | rfl | rfl | rfl
  on_goal 5 => exact countHeartbeat_tableInv h
  on_goal 5 => exact countSettle_tableInv h
  all_goals exact tableInv_of_ev h (by simp)

theorem periodCounts_ev : ∀ f ∈ periodCounts, ∀ t : State, (f t).ev = t.ev := by simp [periodCounts]

theorem slowPeriod_tableInv (h : s.tableInv) : (slowPeriod s).tableInv := by
  refine tableInv_owners.slowPeriod h (fun f hf t ht => ?_) (fun _ => takeDueDecisions_tableInv)
    (fun k t ht => tableInv_of_ev ht (by simp))
    fun t ht => ⟨tableInv_of_ev ht (by simp), tableInv_of_ev ht (by simp)⟩
  rcases List.mem_append.1 hf with hf | hf
  · exact tableInv_of_ev ht (periodCounts_ev f hf t)
  · exact tickCounts_tableInv f hf t ht

theorem enterJoining_tableInv (s : State) : (enterJoining s).tableInv := evJoining_tableInv _

theorem fixConfiguration_tableInv (s : State) : (fixConfiguration s).tableInv :=
  tableInv_of_ev (s := fixEntered s) (enterJoining_tableInv _) (by simp [fixConfiguration_eq, fixLoaded])

end Table

/-! ### The table along a step -/

/-- Every command keeps the table in order. Of the link commands Fix and Rejoin alone touch the view, both by the entry
to Joining. -/
theorem exec_tableInv {c : Instr} {s t : State} (h : s.tableInv) (he : exec c s = .next t) : t.tableInv := by
  have kept : ∀ {f : State → State}, gated s f = .next t → (f s).tableInv → t.tableInv := fun he hf =>
    gated_keeps he h fun _ => hf
  have framed : ∀ {f : State → State}, gated s f = .next t → (f s).ev = s.ev → t.tableInv := fun he hf =>
    kept he (tableInv_of_ev h hf)
  have linked : ∀ {owner : State → Answer}, linkCommand owner s = .next t → (owner s).state.tableInv → t.tableInv :=
    fun he ho => linkCommand_keeps he h (fun _ _ hx => hx) fun _ => ho
  have answered : ∀ {owner : State → Answer}, linkCommand owner s = .next t → (owner s).state.ev = s.ev → t.tableInv :=
    fun he ho => linked he (tableInv_of_ev h ho)
  cases c with
  | coldStart => exact Host.Outcome.next.inj he ▸ tableOk_nil
  | warmStart =>
    obtain rfl := Host.Outcome.next.inj he
    exact iteInduction (fun _ => tableOk_nil) fun _ => tableOk_nil
  | rstNLow => exact Host.Outcome.next.inj he ▸ h
  | seekingEnd | startRequest | startPulseSeen | startAccepted | glitch | round | stuckLine | stuckLineCleared
  | assertedPeriodWatchReading => exact tableInv_owners.exec_lineCommand rfl h he
  | localDecision => exact kept he (takeDueDecisions_tableInv h)
  | heartbeatExpiry => exact kept he (heartbeatRunsOut_tableInv h)
  | settleExpiry => exact kept he (settleRunsOut_tableInv h)
  | senseFilteredEdge k b =>
    simp only [exec, execSenseFilteredEdge] at he
    exact framed he (by simp)
  | rejoinTimerExpiry | wakeTimerExpiry | patienceExpiry | lingerExpiry | helloTimerExpiry | graceExpiry
  | quietDelayExpiry | linkHoldExpiry | batteryTimerExpiry | quietIntervalExpiry | conversionEnd | sampleBoundary
  | exclusionAgeOut | holdOffEnd => exact framed he (by simp)
  | clockConfirmed | clockSettleTimeout | clockOutOfTolerance => exact framed he (by split <;> simp)
  | linkSelect => exact Host.Outcome.next.inj he ▸ tableInv_of_ev h (by simp)
  | linkDeselect n => exact Host.Outcome.next.inj he ▸ tableInv_of_ev h (by simp)
  | unknownCommand b =>
    obtain rfl := Host.Outcome.next.inj he
    exact iteInduction (fun _ => tableInv_of_ev h (by simp)) fun _ => h
  | readStationStatus | readCauseTable | readEpisodeTable | readDrainRecord => exact linked he h
  | readCensus => exact linked he (by split <;> exact h)
  | readAndClearEvents => exact answered he (by simp [reads])
  | readConfigSection i => exact linked he (by split <;> exact h)
  | writeConfigSection i b =>
    have written : ∀ b', (writeSection i b' s).state.ev = s.ev := fun b' => by
      rcases writeSection_state s i b' with hs | ⟨-, hs⟩ <;> simp [hs]
    simp only [exec, execWriteConfigSection] at he
    split at he
    · exact answered he (written _)
    · split at he
      · exact answered he (written _)
      · exact Host.Outcome.next.inj he ▸ tableInv_of_ev h (by simp)
  | fix =>
    refine linked he ?_
    rcases fixAnswer_state s with hs | ⟨-, hs⟩ <;> rw [hs]
    · exact h
    · exact fixConfiguration_tableInv s
  | rejoin =>
    refine linked he ?_
    rcases rejoinAnswer_state s with hs | hs | hs <;> rw [hs]
    · exact h
    · exact enterJoining_tableInv s
    · exact tableInv_of_ev h (by simp)
  | postCause i c l p r => exact answered he (by rcases postAnswer_state s i c l p r with hs | hs | hs <;> simp [hs])
  | releaseCause i => exact answered he (by rcases releaseAnswer_state s i with hs | hs <;> simp [hs])
  | armTimer n c m => exact answered he (by rcases armAnswer_state s n c m with hs | hs <;> simp [hs])
  | startCensus l => exact answered he (by rcases startCensusAnswer_state s l with hs | hs <;> simp [hs])
  | abandonCensus => exact answered he (by rcases abandonAnswer_state s with hs | hs | hs <;> simp [hs])
  | hello => exact answered he (by rcases helloAnswer_state s with hs | hs <;> simp [hs])
  | park => exact answered he (by rcases parkAnswer_state s with hs | hs <;> simp [hs])
  | clearCut => exact answered he (by rcases clearCutAnswer_state s with hs | hs | hs <;> simp [hs])
  | requestRefill => exact answered he (by rcases refillAnswer_state s with hs | hs <;> simp [hs])
  | requestRestore => exact answered he (by rcases restoreAnswer_state s with hs | hs <;> simp [hs])

/-- Settles O11: the table is kept in order by every slow-clock period and by every command. -/
theorem stepKeepsTheTable : Obligations.StepKeepsTheTable := by
  intro s t h he
  simp only [step] at he
  split at he
  · exact Host.Outcome.next.inj he ▸ slowPeriod_tableInv h
  · exact exec_tableInv (tableInv_of_ev h (by simp)) he

end Sys2Proof.Machine

namespace Sys2Proof.Machine

/-! ## The switches are those of the module state (R112)

Every move of the module state sets the three outputs by the table of section 6.1; a need recorded without a move keeps
them, since RAILB follows the need in On alone and no need is recorded there. Every other part of the power record
stands beside the outputs, and every other block leaves the record as it is. -/

section Switches

variable {s t : State}

/-- The invariant speaks of the module state, the need and the three switches. -/
theorem railsInv_of_switches {m : Mpc} (h : m.outputsAgree = true) (hx : t.mpc.state = m.state ∧ t.mpc.need = m.need
    ∧ t.mpc.feed = m.feed ∧ t.mpc.raila = m.raila ∧ t.mpc.railb = m.railb) : t.railsInv := by
  obtain ⟨state, need, feed, raila, railb⟩ := hx
  simpa only [State.railsInv, Mpc.outputsAgree, state, need, feed, raila, railb] using h

theorem railsInv_of_mpc (h : s.railsInv) (hx : t.mpc = s.mpc) : t.railsInv := by rwa [State.railsInv, hx]

/-! ### The module's moves (R115 to R122, R126 to R128) -/

theorem enterPowering_railsInv (n : Need) (s : State) : (enterPowering n s).railsInv :=
  railsInv_of_switches (moveTo_outputsAgree s.mpc .powering n) (by simp [enterPowering])

theorem enterParking_railsInv (s : State) : (enterParking s).railsInv :=
  railsInv_of_switches (moveTo_outputsAgree s.mpc .parking .empty) (by simp [enterParking])

theorem evaluateOn_railsInv (n : Need) (s : State) : (evaluateOn n s).railsInv :=
  iteInduction (fun _ => enterParking_railsInv s) fun _ => moveTo_outputsAgree s.mpc .on n

theorem cancelPark_railsInv (n : Need) (s : State) : (cancelPark n s).railsInv :=
  railsInv_of_switches (moveTo_outputsAgree s.mpc .on n) (by simp [cancelPark])

theorem recordNeed_railsInv {n : Need} (h : s.railsInv) (hs : s.mpc.state ≠ .on) : (recordNeed n s).railsInv := by
  have beside : (s.mpc.state == .on) = false := beq_eq_false_iff_ne.2 hs
  simpa [State.railsInv, Mpc.outputsAgree, recordNeed, beside] using h

theorem evaluateNeed_railsInv (h : s.railsInv) : (evaluateNeed s).railsInv := by
  refine iteInduction (fun _ => h) fun _ => ?_
  have recorded : ∀ {st : ModuleState}, s.mpc.state = st → st ≠ .on → (recordNeed s.needNow s).railsInv :=
    fun hs hn => recordNeed_railsInv h (hs ▸ hn)
  split
  next off => exact iteInduction (fun _ => recorded off nofun) fun _ => enterPowering_railsInv _ s
  next powering => exact recorded powering nofun
  next => exact evaluateOn_railsInv _ s
  next parking => exact iteInduction (fun _ => recorded parking nofun) fun _ => cancelPark_railsInv _ s
  next cut => exact iteInduction (fun _ => enterPowering_railsInv _ _) fun _ => recorded cut nofun

theorem powerUpDone_railsInv (s : State) : (powerUpDone s).railsInv :=
  evaluateNeed_railsInv (railsInv_of_switches (moveTo_outputsAgree s.mpc .on s.mpc.need) (by simp))

theorem parkDone_railsInv (s : State) : (parkDone s).railsInv :=
  railsInv_of_switches (moveTo_outputsAgree s.mpc .off s.mpc.need) (by simp [parkDone])

theorem leaveCut_railsInv (s : State) : (leaveCut s).railsInv :=
  railsInv_of_switches (moveTo_outputsAgree s.mpc .off s.mpc.need) (by simp [leaveCut])

theorem restoreModule_railsInv (h : s.railsInv) : (restoreModule s).railsInv :=
  iteInduction (fun _ => evaluateNeed_railsInv (leaveCut_railsInv s)) fun _ => h

theorem mpcStatus_railsInv (b : Bool) (h : s.railsInv) : (mpcStatus b s).railsInv :=
  evaluateNeed_railsInv (iteInduction (fun _ => restoreModule_railsInv h) fun _ => h)

theorem enterCut_railsInv (s : State) : (enterCut s).railsInv :=
  railsInv_of_switches (moveTo_outputsAgree s.mpc .cut s.mpc.need) (by simp [enterCut])

theorem setLoud_railsInv (n : Nat) (h : s.railsInv) : (setLoud n s).railsInv :=
  iteInduction (fun _ => h) fun _ => railsInv_of_switches h (by simp)

theorem loudOutcome_railsInv (h : s.railsInv) : (loudOutcome s).railsInv :=
  iteInduction (fun _ => enterCut_railsInv _) fun _ => setLoud_railsInv _ h

/-! ### The causes' reports (R79) -/

theorem reportCause_railsInv (c : Cause) (h : s.railsInv) : (reportCause c s).railsInv :=
  iteInduction (fun _ => evaluateNeed_railsInv h) fun _ => h

theorem followSource_railsInv (i : Nat) (h : s.railsInv) : (followSource i s).railsInv :=
  iteInduction (fun _ => h) fun _ => reportCause_railsInv _ h

theorem filteredEdge_railsInv (k : Nat) (b : Bool) (h : s.railsInv) : (filteredEdge k b s).railsInv := by
  refine iteInduction (fun _ => h) fun _ => followSource_railsInv k ?_
  exact iteInduction (fun _ => railsInv_of_mpc h (by simp)) fun _ => h

theorem sampleSense_railsInv (k : Nat) (h : s.railsInv) : (sampleSense k s).railsInv :=
  iteInduction (fun _ => h) fun _ => iteInduction (fun _ => filteredEdge_railsInv k _ h) fun _ => h

theorem lingerRunsOut_railsInv (i : Nat) (h : s.railsInv) : (lingerRunsOut i s).railsInv :=
  iteInduction (fun _ => reportCause_railsInv _ (railsInv_of_mpc h (by simp))) fun _ => h

theorem releaseSlot_railsInv (i : Nat) (h : s.railsInv) : (releaseSlot i s).railsInv := by
  refine iteInduction (fun _ => h) fun _ => iteInduction (fun _ => ?_) fun _ => railsInv_of_mpc h (by simp)
  exact reportCause_railsInv _ (railsInv_of_mpc h (by simp))

theorem countSlot_railsInv (i : Nat) (h : s.railsInv) : (countSlot i s).railsInv := by
  simp only [countSlot]
  split
  · exact railsInv_of_mpc h (by (repeat' split) <;> simp)
  · exact iteInduction (fun _ => lingerRunsOut_railsInv i h) fun _ => h
  all_goals exact h

/-! ### The module's timers and the quiet checks (R118, R121, R125, R129, R146) -/

theorem helloRunsOut_railsInv (h : s.railsInv) : (helloRunsOut s).railsInv :=
  iteInduction (fun _ => powerUpDone_railsInv _) fun _ => h

theorem graceRunsOut_railsInv (h : s.railsInv) : (graceRunsOut s).railsInv :=
  iteInduction (fun _ => parkDone_railsInv _) fun _ => h

theorem quietDelayRunsOut_railsInv (h : s.railsInv) : (quietDelayRunsOut s).railsInv :=
  iteInduction (fun _ => railsInv_of_switches h (by simp)) fun _ => h

theorem quietCharge_railsInv (q : Nat) (h : s.railsInv) : (quietCharge q s).railsInv := railsInv_of_mpc h (by simp)

theorem quietCheckOutcome_railsInv (n : Nat) (h : s.railsInv) : (quietCheckOutcome n s).railsInv :=
  iteInduction (fun _ => quietCharge_railsInv _ (loudOutcome_railsInv (s := s.withMu _) h)) fun _ =>
    quietCharge_railsInv _ (setLoud_railsInv 0 h)

theorem selectOrStop_railsInv (h : s.railsInv) : (selectOrStop s).railsInv := railsInv_of_mpc h (by simp)

theorem conversionEnds_railsInv (v : Int) (h : s.railsInv) : (conversionEnds v s).railsInv := by
  cases hu : s.mu.inFlight with
  | none => simpa only [conversionEnds, hu] using h
  | some u =>
    obtain ⟨x, -, ends⟩ := conversionEnds_delivers s u hu v
    rw [ends]
    have delivered : ∀ m, (deliver u x (s.withMu m)).railsInv := fun m => by
      cases u with
      | battery => exact railsInv_of_mpc h (by simp [deliver])
      | quiet => exact quietCheckOutcome_railsInv _ (s := s.withMu m) h
      | drain => exact railsInv_of_mpc h (by simp [deliver])
    exact selectOrStop_railsInv (delivered _)

theorem countQuietDelay_railsInv (h : s.railsInv) : (countQuietDelay s).railsInv := by
  simp only [countQuietDelay]
  split
  · exact iteInduction (fun _ => quietDelayRunsOut_railsInv h) fun _ => h
  · exact h

theorem countGrace_railsInv (h : s.railsInv) : (countGrace s).railsInv := by
  simp only [countGrace]
  split
  · exact iteInduction (fun _ => h) fun _ => iteInduction (fun _ => graceRunsOut_railsInv h) fun _ => h
  · exact h

theorem countHello_railsInv (h : s.railsInv) : (countHello s).railsInv := by
  simp only [countHello]
  split
  · exact iteInduction (fun _ => h) fun _ => iteInduction (fun _ => helloRunsOut_railsInv h) fun _ => h
  · exact h

/-- Of the counts of a period the module's three timers alone touch the power record. -/
theorem periodCounts_railsInv : ∀ f ∈ periodCounts, ∀ t : State, t.railsInv → (f t).railsInv := by
  intro f hf t h
  simp only [periodCounts, List.mem_cons, List.not_mem_nil, or_false] at hf
  rcases hf with rfl | rfl | rfl | rfl | rfl | rfl
  · exact railsInv_of_mpc h (by simp)
  · exact railsInv_of_mpc h (by simp)
  · exact railsInv_of_mpc h (by simp)
  · exact countQuietDelay_railsInv h
  · exact countGrace_railsInv h
  · exact countHello_railsInv h

/-! ### Local decisions and the local mode (R54 to R56) -/

theorem localStatus_railsInv (h : s.railsInv) : (localStatus s).railsInv := by
  have refilled : (localRefilled s).mpc = s.mpc := by
    unfold localRefilled
    split <;> simp [localViewed, localOffered]
  exact mpcStatus_railsInv _ (railsInv_of_switches (t := unfreeze (localRefilled s)) h (by simp [unfreeze, refilled]))

theorem localRest_railsInv (h : s.railsInv) : (localRest s).railsInv :=
  evaluateNeed_railsInv (railsInv_of_mpc h (by simp))

theorem takeDueDecisions_railsInv (h : s.railsInv) : (takeDueDecisions s).railsInv := by
  have decided : (if s.mc.decisionDue then localStatus s else s).railsInv :=
    iteInduction (fun _ => localStatus_railsInv h) fun _ => h
  refine iteInduction (fun _ => iteInduction (fun _ => ?_) fun _ => decided) fun _ => h
  exact localRest_railsInv (s := State.withMc _ _) decided

theorem enterLocal_railsInv (h : s.railsInv) : (enterLocal s).railsInv := by
  have decided : (localStatus (evLocalEntry s)).railsInv := localStatus_railsInv (railsInv_of_mpc h (by simp))
  exact iteInduction (fun _ => localRest_railsInv decided) fun _ => decided

theorem settleRunsOut_railsInv (h : s.railsInv) : (settleRunsOut s).railsInv := by
  refine iteInduction (fun _ => iteInduction (fun _ => ?_) fun _ => railsInv_of_mpc h (by simp)) fun _ => h
  exact iteInduction (fun _ => h) fun _ => localRest_railsInv (s := s.withEv _) h

theorem countSettle_railsInv (h : s.railsInv) : (countSettle s).railsInv := by
  simp only [countSettle]
  split
  · exact iteInduction (fun _ => settleRunsOut_railsInv h) fun _ => h
  · exact h

/-- Of the counts of a tick the causes' and the settle timer's alone touch the power record. -/
theorem tickCounts_railsInv : ∀ f ∈ tickCounts, ∀ t : State, t.railsInv → (f t).railsInv := by
  intro f hf t h
  simp only [tickCounts, List.mem_append, List.mem_map, List.mem_cons, List.not_mem_nil, or_false] at hf
  rcases hf with ⟨i, -, rfl⟩ | rfl | rfl | rfl | rfl | rfl | rfl | rfl | rfl | rfl | rfl
  on_goal 1 => exact countSlot_railsInv i h
  on_goal 5 => exact countSettle_railsInv h
  all_goals exact railsInv_of_mpc h (by simp)

/-! ### Line faults and outcomes (R34, R43, R44, R47 to R50) -/

theorem reportFault_railsInv (f : LineFault) (h : s.railsInv) : (reportFault f s).railsInv := by
  have entered : ∀ u : State, u.mpc = s.mpc → (raiseEvent .lineTrouble (enterLocal u)).railsInv := fun u hu =>
    railsInv_of_mpc (enterLocal_railsInv (railsInv_of_mpc h hu)) (by simp)
  simp only [reportFault]
  split
  · exact entered _ (by simp)
  · exact iteInduction (fun _ => h) fun _ => entered _ (by simp)
  · exact railsInv_of_mpc h (by simp)
  all_goals exact h

theorem commitStatus_railsInv (r : RoundRecord) (h : s.railsInv) : (commitStatus r s).railsInv := by
  have powered : (statusPowered r s).railsInv :=
    mpcStatus_railsInv _ (railsInv_of_mpc h (statusRefilled_frame r s).1)
  rw [commitStatus_eq]
  exact railsInv_of_mpc powered (by simp)

theorem commitRest_railsInv (r : RoundRecord) (h : s.railsInv) : (commitRest r s).railsInv :=
  evaluateNeed_railsInv (railsInv_of_mpc h (by simp))

theorem admitStation_railsInv (c : Half) (m : HoldMap) (h : s.railsInv) : (admitStation c m s).railsInv := by
  have recorded : (admitted s c).mpc = s.mpc := rfl
  have viewed : (admittedView s c m).railsInv :=
    railsInv_of_switches (m := s.mpc) h (by simp [admittedView, unfreeze, recorded])
  rw [admitStation_eq]
  exact railsInv_of_mpc (evaluateNeed_railsInv viewed) (State.withCu_mpc _ _)

theorem refuse_railsInv (f : LineFault) (b : Bool) (h : s.railsInv) : (refuse f b s).railsInv := by
  have recorded : (setDisagreement b (refused s f)).railsInv := railsInv_of_mpc h (by simp [refused])
  rw [refuse_eq]
  exact iteInduction (fun _ => recorded) fun _ => enterLocal_railsInv recorded

theorem commitJoin_railsInv (r : RoundRecord) (h : s.railsInv) : (commitJoin r s).railsInv := by
  refine iteInduction (fun _ => railsInv_of_mpc h (by simp)) fun _ => ?_
  refine iteInduction (fun _ => refuse_railsInv _ _ h) fun _ => ?_
  exact iteInduction (fun _ => admitStation_railsInv _ _ h) fun _ => refuse_railsInv _ _ h

theorem commitRound_railsInv (r : RoundRecord) (h : s.railsInv) : (commitRound r s).railsInv := by
  have counted : (s.withRe { s.re with voids := 0 }).railsInv := h
  simp only [commitRound]
  split
  · exact commitStatus_railsInv r counted
  · exact commitRest_railsInv r counted
  · exact railsInv_of_mpc counted (by simp)
  · exact commitJoin_railsInv r counted
  · exact counted

/-- What the line and the RE make the owners do keeps the switches. -/
theorem railsInv_owners : OwnersKeep State.railsInv where
  lif _ h := h
  re _ h := h
  pins _ h := h
  offers h := railsInv_of_mpc h (by simp)
  fault f := reportFault_railsInv f
  returns h := railsInv_of_mpc h (by simp)
  commit r := commitRound_railsInv r

/-! ### The period, the starts and the entry to Joining -/

theorem slowPeriod_railsInv (h : s.railsInv) : (slowPeriod s).railsInv := by
  refine railsInv_owners.slowPeriod h (fun f hf t ht => ?_) (fun _ => takeDueDecisions_railsInv)
    (fun k _ => sampleSense_railsInv k)
    fun t ht => ⟨railsInv_of_mpc ht (by simp), railsInv_of_mpc ht (by simp)⟩
  rcases List.mem_append.1 hf with hf | hf
  · exact periodCounts_railsInv f hf t ht
  · exact tickCounts_railsInv f hf t ht

/-- A warm start keeps the outputs and takes Powering and Parking as On; the need it names is that of the rails that are
on, so RAILB still follows it (R111). -/
theorem warm_outputsAgree {m : Mpc} (c : Store) (h : m.outputsAgree = true) : (m.warm c).outputsAgree = true := by
  obtain ⟨state, feed, raila, railb, frozen, need, loud, hello, grace, quietDelay⟩ := m
  simp only [Mpc.outputsAgree, Bool.and_eq_true, beq_iff_eq] at h
  obtain ⟨⟨rfl, rfl⟩, rfl⟩ := h
  cases state <;> cases need <;> rfl

theorem enterJoining_railsInv (h : s.railsInv) : (enterJoining s).railsInv :=
  railsInv_of_switches h (by simp [(enterJoining_spec s).2.1])

theorem fixConfiguration_railsInv (h : s.railsInv) : (fixConfiguration s).railsInv :=
  railsInv_of_mpc (s := fixEntered s) (enterJoining_railsInv (s := s.withMc _) h)
    (by simp [fixConfiguration_eq, fixLoaded])

end Switches

/-! ### The switches along a step -/

/-- Every command keeps the switches. -/
theorem exec_railsInv {c : Instr} {s t : State} (h : s.railsInv) (he : exec c s = .next t) : t.railsInv := by
  have kept : ∀ {f : State → State}, gated s f = .next t → (f s).railsInv → t.railsInv := fun he hf =>
    gated_keeps he h fun _ => hf
  have framed : ∀ {f : State → State}, gated s f = .next t → (f s).mpc = s.mpc → t.railsInv := fun he hf =>
    kept he (railsInv_of_mpc h hf)
  have linked : ∀ {owner : State → Answer}, linkCommand owner s = .next t → (owner s).state.railsInv → t.railsInv :=
    fun he ho => linkCommand_keeps he h (fun _ _ hx => hx) fun _ => ho
  have answered : ∀ {owner : State → Answer}, linkCommand owner s = .next t → (owner s).state.mpc = s.mpc → t.railsInv :=
    fun he ho => linked he (railsInv_of_mpc h ho)
  cases c with
  | coldStart => exact Host.Outcome.next.inj he ▸ rfl
  | warmStart =>
    obtain rfl := Host.Outcome.next.inj he
    exact iteInduction (fun _ => railsInv_of_mpc (s := s.withMpc (s.mpc.warm s.pl.store)) (warm_outputsAgree _ h)
      (by simp [warmState])) fun _ => rfl
  | rstNLow => exact Host.Outcome.next.inj he ▸ h
  | seekingEnd | startRequest | startPulseSeen | startAccepted | glitch | round | stuckLine | stuckLineCleared
  | assertedPeriodWatchReading => exact railsInv_owners.exec_lineCommand rfl h he
  | localDecision => exact kept he (takeDueDecisions_railsInv h)
  | settleExpiry => exact kept he (settleRunsOut_railsInv h)
  | senseFilteredEdge k b =>
    simp only [exec, execSenseFilteredEdge] at he
    exact kept he (filteredEdge_railsInv _ _ h)
  | lingerExpiry i => exact kept he (lingerRunsOut_railsInv _ h)
  | helloTimerExpiry => exact kept he (helloRunsOut_railsInv h)
  | graceExpiry => exact kept he (graceRunsOut_railsInv h)
  | quietDelayExpiry => exact kept he (quietDelayRunsOut_railsInv h)
  | conversionEnd v => exact kept he (conversionEnds_railsInv v h)
  | rejoinTimerExpiry | wakeTimerExpiry | patienceExpiry | heartbeatExpiry | linkHoldExpiry | batteryTimerExpiry
  | quietIntervalExpiry | sampleBoundary | exclusionAgeOut | holdOffEnd => exact framed he (by simp)
  | clockConfirmed | clockSettleTimeout | clockOutOfTolerance => exact framed he (by split <;> simp)
  | linkSelect => exact Host.Outcome.next.inj he ▸ railsInv_of_mpc h (by simp)
  | linkDeselect n => exact Host.Outcome.next.inj he ▸ railsInv_of_mpc h (by simp)
  | unknownCommand b =>
    obtain rfl := Host.Outcome.next.inj he
    exact iteInduction (fun _ => h) fun _ => h
  | readStationStatus | readCauseTable | readEpisodeTable | readDrainRecord => exact linked he h
  | readCensus => exact linked he (by split <;> exact h)
  | readAndClearEvents => exact answered he (by simp [reads])
  | readConfigSection i => exact linked he (by split <;> exact h)
  | writeConfigSection i b =>
    have written : ∀ b', (writeSection i b' s).state.mpc = s.mpc := fun b' => by
      rcases writeSection_state s i b' with hs | ⟨-, hs⟩ <;> simp [hs]
    simp only [exec, execWriteConfigSection] at he
    split at he
    · exact answered he (written _)
    · split at he
      · exact answered he (written _)
      · exact Host.Outcome.next.inj he ▸ railsInv_of_mpc h (by simp)
  | fix =>
    refine linked he ?_
    rcases fixAnswer_state s with hs | ⟨-, hs⟩ <;> rw [hs]
    · exact h
    · exact fixConfiguration_railsInv h
  | rejoin =>
    refine linked he ?_
    rcases rejoinAnswer_state s with hs | hs | hs <;> rw [hs]
    · exact h
    · exact enterJoining_railsInv h
    · exact railsInv_of_mpc h (by simp)
  | releaseCause i =>
    refine linked he ?_
    rcases releaseAnswer_state s i with hs | hs <;> rw [hs]
    · exact h
    · exact releaseSlot_railsInv _ h
  | hello =>
    refine linked he ?_
    rcases helloAnswer_state s with hs | hs <;> rw [hs]
    · exact h
    · exact powerUpDone_railsInv s
  | park =>
    refine linked he ?_
    rcases parkAnswer_state s with hs | hs <;> rw [hs]
    · exact h
    · exact parkDone_railsInv s
  | clearCut =>
    refine linked he ?_
    rcases clearCutAnswer_state s with hs | hs | hs <;> rw [hs]
    · exact h
    · exact evaluateNeed_railsInv (leaveCut_railsInv s)
    · exact setLoud_railsInv 0 h
  | postCause i c l p r => exact answered he (by rcases postAnswer_state s i c l p r with hs | hs | hs <;> simp [hs])
  | armTimer n c m => exact answered he (by rcases armAnswer_state s n c m with hs | hs <;> simp [hs])
  | startCensus l => exact answered he (by rcases startCensusAnswer_state s l with hs | hs <;> simp [hs])
  | abandonCensus => exact answered he (by rcases abandonAnswer_state s with hs | hs | hs <;> simp [hs])
  | requestRefill => exact answered he (by rcases refillAnswer_state s with hs | hs <;> simp [hs])
  | requestRestore => exact answered he (by rcases restoreAnswer_state s with hs | hs <;> simp [hs])

/-- Settles O10: the switches are kept by every slow-clock period and by every command. -/
theorem stepKeepsTheSwitches : Obligations.StepKeepsTheSwitches := by
  intro s t h he
  simp only [step] at he
  split at he
  · exact Host.Outcome.next.inj he ▸ slowPeriod_railsInv h
  · exact exec_railsInv (railsInv_of_mpc h (by simp)) he

end Sys2Proof.Machine

namespace Sys2Proof.Machine

/-! ## What the module's operations may raise (R31, R55, R93, R194) -/

/-- From s to t a Status want may be raised, with the local decision it makes due, and events; the rest of the RE and of
the MC, the notice requests and the store stand. -/
def mayRaise (s t : State) : Prop := raisesOnly s t ∧ wantsOnly s t

section MayRaise

variable {s t u : State}

theorem mayRaise.trans (h : mayRaise s t) (k : mayRaise t u) : mayRaise s u :=
  ⟨raisesOnly_trans h.1 k.1, wantsOnly_trans h.2 k.2⟩

theorem mayRaise.frames (h : mayRaise s t) : wantFrame s t ∧ noticeFrame s t := frames_of_raises h.1 h.2

/-- A Status want that is held stays held. -/
theorem mayRaise.held (h : mayRaise s t) (hs : s.re.status.held = true) : t.re.status.held = true := by
  obtain ⟨-, -, -, kept, -⟩ := h.2
  exact kept hs

theorem mayRaise_of_eq (hl : t.lif = s.lif) (hm : t.mc = s.mc) (hr : t.re = s.re) (hp : t.pl = s.pl) : mayRaise s t :=
  ⟨raisesOnly_of_eq hl (by rw [hm]) hr hp, wantsOnly_of_eq hm hr (by rw [hp])⟩

theorem mayRaise_refl (s : State) : mayRaise s s := mayRaise_of_eq rfl rfl rfl rfl

theorem raiseStatus_mayRaise (s : State) : mayRaise s (raiseStatus s) :=
  ⟨raiseStatus_raisesOnly s, raiseStatus_wantsOnly s⟩

theorem raiseEvent_mayRaise (e : Event) (s : State) : mayRaise s (raiseEvent e s) :=
  ⟨raiseEvent_raisesOnly e s, wantsOnly_of_eq rfl rfl rfl⟩

theorem recomputeGrades_mayRaise (s : State) : mayRaise s (recomputeGrades s) :=
  ⟨recomputeGrades_raisesOnly s, recomputeGrades_wantsOnly s⟩

theorem evaluateNeed_mayRaise (s : State) : mayRaise s (evaluateNeed s) :=
  ⟨evaluateNeed_raisesOnly s, evaluateNeed_wantsOnly s⟩

/-- A new power record with its Status want. -/
theorem raiseStatus_withMpc_mayRaise (m : Mpc) (s : State) : mayRaise s (raiseStatus (s.withMpc m)) :=
  .trans (mayRaise_of_eq rfl rfl rfl rfl) (raiseStatus_mayRaise _)

theorem powerUpDone_mayRaise (s : State) : mayRaise s (powerUpDone s) :=
  (raiseStatus_withMpc_mayRaise _ s).trans (evaluateNeed_mayRaise _)

theorem leaveCut_mayRaise (s : State) : mayRaise s (leaveCut s) := raiseStatus_withMpc_mayRaise _ s

theorem setLoud_mayRaise (n : Nat) (s : State) : mayRaise s (setLoud n s) :=
  iteInduction (motive := mayRaise s) (fun _ => mayRaise_of_eq rfl rfl rfl rfl) fun _ =>
    raiseStatus_withMpc_mayRaise _ s

/-- The link's end drops the transaction and the clearing marks, and neither an event nor a notice request (R181). -/
theorem linkRailOff_mayRaise (s : State) : mayRaise s (linkRailOff s) := by
  refine ⟨?_, wantsOnly_of_eq rfl rfl rfl⟩
  simp [raisesOnly, linkRailOff, State.eventSet]

theorem measureRailOff_mayRaise (s : State) : mayRaise s (measureRailOff s) :=
  mayRaise_of_eq (by simp) (by simp) (by simp) (by simp)

theorem drainRailOff_mayRaise (s : State) : mayRaise s (drainRailOff s) := by
  have emptied : ∀ d, mayRaise s (s.withDa d) := fun d => mayRaise_of_eq rfl rfl rfl rfl
  exact (emptied _).trans (recomputeGrades_mayRaise _)

theorem railOff_mayRaise (s : State) : mayRaise s (railOff s) :=
  ((linkRailOff_mayRaise s).trans (measureRailOff_mayRaise _)).trans (drainRailOff_mayRaise _)

theorem parkDone_mayRaise (s : State) : mayRaise s (parkDone s) := by
  have moved : ∀ m, mayRaise s (s.withMpc m) := fun m => mayRaise_of_eq rfl rfl rfl rfl
  exact ((moved _).trans (railOff_mayRaise _)).trans (raiseStatus_mayRaise _)

end MayRaise

/-! ### The event flags -/

section Flags

variable (s : State) (e : Event)

@[simp] theorem raiseStatus_eventSet : (raiseStatus s).eventSet e = s.eventSet e := by simp [State.eventSet]

@[simp] theorem withMpc_eventSet (m : Mpc) : (s.withMpc m).eventSet e = s.eventSet e := rfl

@[simp] theorem withAnswer_eventSet (a : Byte) (b : List Byte) : (s.withAnswer a b).eventSet e = s.eventSet e := rfl

end Flags

/-! ## A move of the module state (R112) -/

section Moves

variable (m : Mpc) (st : ModuleState) (n : Need)

/-- A move sets the state, the need and the switches alone. -/
@[simp] theorem moveTo_keeps : (m.moveTo st n).state = st ∧ (m.moveTo st n).need = n
    ∧ (m.moveTo st n).frozen = m.frozen ∧ (m.moveTo st n).loud = m.loud ∧ (m.moveTo st n).hello = m.hello
    ∧ (m.moveTo st n).grace = m.grace ∧ (m.moveTo st n).quietDelay = m.quietDelay :=
  ⟨rfl, rfl, rfl, rfl, rfl, rfl, rfl⟩

theorem moveTo_on : (m.moveTo .on n).feed = true ∧ (m.moveTo .on n).raila = true
    ∧ (m.moveTo .on n).railb = decide (n = .ab) := ⟨rfl, rfl, by cases n <;> rfl⟩

theorem moveTo_parking : (m.moveTo .parking n).feed = true ∧ (m.moveTo .parking n).raila = true
    ∧ (m.moveTo .parking n).railb = false := ⟨rfl, rfl, rfl⟩

theorem moveTo_off : (m.moveTo .off n).feed = true ∧ (m.moveTo .off n).raila = false
    ∧ (m.moveTo .off n).railb = false := ⟨rfl, rfl, rfl⟩

end Moves

/-! ## The need and its evaluation, by module state (R114 to R119) -/

section Evaluation

variable {s t : State}

/-- The need depends on the settings, the view and the causes alone. -/
theorem needNow_congr (hs : t.settings = s.settings) (he : t.ev = s.ev) (hc : t.ct = s.ct) : t.needNow = s.needNow := by
  rw [State.needNow, hs, he, hc, State.needNow]

theorem evaluateNeed_of_frozen (h : s.mpc.frozen = true) : evaluateNeed s = s := by simp [evaluateNeed, h]

theorem evaluateNeed_of_on (hf : s.fixed = true) (hz : s.mpc.frozen = false) (hs : s.mpc.state = .on) :
    evaluateNeed s = evaluateOn s.needNow s := by
  simp [evaluateNeed, hf, hz, hs]

theorem evaluateNeed_of_off (hf : s.fixed = true) (hz : s.mpc.frozen = false) (hs : s.mpc.state = .off) :
    evaluateNeed s = if s.needNow = .empty then recordNeed s.needNow s else enterPowering s.needNow s := by
  simp [evaluateNeed, hf, hz, hs]

/-- An evaluation in On stays On with RAILB as the need has it, or begins to park on an empty need (R119). -/
theorem evaluateOn_mpc (n : Need) (s : State) :
    (evaluateOn n s).mpc.state = (if n = .empty then .parking else .on) ∧ (evaluateOn n s).mpc.raila = true
      ∧ (evaluateOn n s).mpc.feed = true ∧ (evaluateOn n s).mpc.railb = decide (n = .ab)
      ∧ (evaluateOn n s).mpc.hello = s.mpc.hello ∧ (evaluateOn n s).mpc.loud = s.mpc.loud := by
  simp only [evaluateOn]
  split
  next empty => simp [enterParking, moveTo_parking, empty]
  next => simp [moveTo_on]

/-- The one event of an evaluation in On is ParkRequest, on an empty need (R119). -/
theorem evaluateOn_eventSet (n : Need) (s : State) (e : Event) : (evaluateOn n s).eventSet e
    = (s.eventSet e || (decide (n = .empty) && e.bit == Event.parkRequest.bit)) := by
  simp only [evaluateOn]
  split <;> simp_all [enterParking]

end Evaluation

/-! ## The end of Powering (R117 to R119) -/

/-- Powering ends in On, and the need as it stands is evaluated there. -/
theorem powerUpDone_spec {s : State} (hf : s.fixed = true) (hz : s.mpc.frozen = false) :
    (powerUpDone s).mpc.hello = none ∧ (powerUpDone s).mpc.raila = true ∧ (powerUpDone s).mpc.feed = true
      ∧ (powerUpDone s).mpc.state = (if s.needNow = .empty then .parking else .on)
      ∧ (powerUpDone s).mpc.railb = decide (s.needNow = .ab) ∧ (powerUpDone s).mpc.loud = s.mpc.loud
      ∧ (∀ e, (powerUpDone s).eventSet e
        = (s.eventSet e || (decide (s.needNow = .empty) && e.bit == Event.parkRequest.bit)))
      ∧ changesOnly [.mpc, .re, .mc, .pl] s (powerUpDone s) := by
  obtain ⟨u, hu⟩ : ∃ u, u = raiseStatus (s.withMpc { s.mpc.moveTo .on s.mpc.need with hello := none }) := ⟨_, rfl⟩
  have need : u.needNow = s.needNow :=
    needNow_congr (settings_congr _ _ (by simp [hu]) (by simp [hu])) (by simp [hu]) (by simp [hu])
  have evaluated : powerUpDone s = evaluateOn s.needNow u := by
    rw [powerUpDone, ← hu, ← need]
    exact evaluateNeed_of_on ((fixed_congr s u (by simp [hu])).trans hf) (by simpa [hu] using hz) (by simp [hu])
  obtain ⟨state, raila, feed, railb, hello, loud⟩ := evaluateOn_mpc s.needNow u
  have kept : u.mpc.hello = none ∧ u.mpc.loud = s.mpc.loud := by simp [hu]
  rw [evaluated]
  exact ⟨hello.trans kept.1, raila, feed, state, railb, loud.trans kept.2, fun e => by simp [evaluateOn_eventSet, hu],
    by simp [changesOnly_iff, hu]⟩

theorem exec_helloTimerExpiry {s : State} (hr : s.pins.rstN = true) (hs : s.mpc.state = .powering)
    (hh : s.mpc.hello ≠ none) (hz : s.mpc.frozen = false) :
    exec .helloTimerExpiry s = .next (powerUpDone (raiseEvent .moduleSilent s)) := by
  have runs : helloRunsOut s = powerUpDone (raiseEvent .moduleSilent s) :=
    if_pos ⟨hs, Option.isSome_iff_ne_none.2 hh, hz⟩
  exact (gated_of_rstN s helloRunsOut hr).trans (congrArg _ runs)

/-- Settles O34: both ends of Powering are `powerUpDone`, the one after ModuleSilent, the other under its answer. -/
theorem poweringEndsInOn : Obligations.PoweringEndsInOn := by
  intro s hs hz hf
  refine ⟨fun hr hh => ⟨_, exec_helloTimerExpiry hr hs hh hz, ?_⟩, fun hl => ?_⟩
  · have need : (raiseEvent .moduleSilent s).needNow = s.needNow := rfl
    obtain ⟨hello, raila, feed, state, railb, loud, events, blocks⟩ :=
      powerUpDone_spec (s := raiseEvent .moduleSilent s) hf hz
    obtain ⟨want, notice⟩ := ((raiseEvent_mayRaise .moduleSilent s).trans (powerUpDone_mayRaise _)).frames
    rw [need] at state railb events
    refine ⟨by simp [events], hello, raila, feed, state, railb, by simp [events, Event.bit], loud,
      changesOnly_trans (by simp [changesOnly_iff]) blocks, want, notice⟩
  · obtain ⟨hello, raila, feed, state, railb, loud, events, blocks⟩ := powerUpDone_spec hf hz
    have owner : helloAnswer s = done (powerUpDone s) := by simp [helloAnswer, hs, hz]
    have taken := linkCommand_answers (owner := helloAnswer) hl (by rw [owner]; exact raila)
    obtain ⟨want, notice⟩ := (powerUpDone_mayRaise s).frames
    rw [owner] at taken
    refine ⟨_, taken, rfl, hello, raila, feed, state, railb, by simp [done, events, Event.bit], loud,
      changesOnly_trans blocks (by simp [changesOnly_iff, done]), want, notice⟩

/-! ## HELLO and PARK out of place (R117, R120, R131) -/

/-- Settles O35. -/
theorem helloAndParkOutOfPlace : Obligations.HelloAndParkOutOfPlace := by
  refine ⟨fun s hl => ⟨fun hs => linkCommand_unmoved hl ?_, fun hs hp => linkCommand_unmoved hl ?_⟩,
    fun s hl hp => linkCommand_unmoved hl ?_⟩
  · simp only [helloAnswer, hs]
    rfl
  · simp only [helloAnswer]
    split
    next on => exact absurd on hs
    next powering => exact if_pos (hp.resolve_left fun away => away powering)
    all_goals rfl
  · simp only [parkAnswer]
    split
    next parking => exact if_pos (hp.resolve_left fun away => away parking)
    all_goals rfl

end Sys2Proof.Machine

namespace Sys2Proof.Machine

/-! ## The requests, the selection and the stop of the clock (R137, R139, R140) -/

section Selection

variable {s : State}

/-- A request flag set or cleared leaves the rest of the MU alone. -/
@[simp] theorem setRequest_keeps (m : Mu) (u : User) (b : Bool) : (m.setRequest u b).clock = m.clock
    ∧ (m.setRequest u b).startTime = m.startTime ∧ (m.setRequest u b).clockFault = m.clockFault
    ∧ (m.setRequest u b).inFlight = m.inFlight ∧ (m.setRequest u b).quietRecord = m.quietRecord
    ∧ (m.setRequest u b).deficit = m.deficit ∧ (m.setRequest u b).batteryLow = m.batteryLow
    ∧ (m.setRequest u b).batteryTimer = m.batteryTimer ∧ (m.setRequest u b).quietTimer = m.quietTimer := by
  cases u <;> exact ⟨rfl, rfl, rfl, rfl, rfl, rfl, rfl, rfl, rfl⟩

@[simp] theorem requested_setRequest (m : Mu) (u v : User) (b : Bool) :
    (m.setRequest u b).requested v = if v = u then b else m.requested v := by
  cases u <;> cases v <;> rfl

theorem requested_of_highest {m : Mu} {u : User} (h : m.highest = some u) : m.requested u = true := by
  revert h
  simp only [Mu.highest]
  (repeat' split) <;> rintro ⟨⟩ <;> assumption

/-- A selection does nothing, or it starts the conversion of a pending request and clears the request's flag (R140). -/
theorem select_cases (s : State) : select s = s ∨ ∃ u, s.mu.requested u = true ∧ s.mu.clock = .running
    ∧ s.mu.inFlight = none ∧ select s = s.withMu { s.mu.setRequest u false with inFlight := some u } := by
  by_cases idle : s.mu.clock = .running ∧ s.mu.inFlight = none
  · cases hu : s.mu.highest with
    | none => exact .inl (by simp [select, idle, hu])
    | some u => exact .inr ⟨u, requested_of_highest hu, idle.1, idle.2, by simp [select, idle, hu]⟩
  · exact .inl (if_neg idle)

/-- A user with no request and no conversion in flight has none after a selection. -/
theorem select_idle {u : User} (hu : s.mu.requested u = false) (hi : s.mu.inFlight ≠ some u) :
    (select s).mu.requested u = false ∧ (select s).mu.inFlight ≠ some u := by
  rcases select_cases s with same | ⟨v, hv, -, -, begun⟩
  · rw [same]
    exact ⟨hu, hi⟩
  · have other : u ≠ v := fun h => by simp [← h, hu] at hv
    rw [begun]
    exact ⟨(requested_setRequest s.mu v u false).trans ((if_neg other).trans hu), by simpa using other.symm⟩

/-- The stop of a clock without demand touches the clock and its start time alone (R137). -/
theorem stopIdleClock_mu (s : State) : (stopIdleClock s).mu
    = { s.mu with clock := (stopIdleClock s).mu.clock, startTime := (stopIdleClock s).mu.startTime } := by
  simp only [stopIdleClock]
  split <;> rfl

/-- The next selection or the stop keeps the records, the hold and the timers of the MU. -/
theorem selectOrStop_keeps (s : State) : (selectOrStop s).mu.linkHold = s.mu.linkHold
    ∧ (selectOrStop s).mu.quietRecord = s.mu.quietRecord ∧ (selectOrStop s).mu.deficit = s.mu.deficit
    ∧ (selectOrStop s).mu.batteryLow = s.mu.batteryLow := by
  rw [selectOrStop, stopIdleClock_mu]
  rcases select_cases s with same | ⟨u, -, -, -, begun⟩
  · simp [same]
  · simp [begun]

/-- A user with no request and no conversion in flight gets none from the next selection or the stop. -/
theorem selectOrStop_idle {u : User} (hu : s.mu.requested u = false) (hi : s.mu.inFlight ≠ some u) :
    (selectOrStop s).mu.requested u = false ∧ (selectOrStop s).mu.inFlight ≠ some u := by
  rw [selectOrStop, stopIdleClock_mu]
  exact select_idle hu hi

/-- An aborted user has no request and no conversion in flight (R148). -/
theorem abort_idle (m : Mu) (u : User) : (m.abort u).requested u = false ∧ (m.abort u).inFlight ≠ some u := by
  refine ⟨(requested_setRequest m u u false).trans (if_pos rfl), ?_⟩
  simp only [Mu.abort]
  split
  · exact nofun
  · assumption

end Selection

/-! ## What a recomputation of the grades keeps (R164) -/

section Regrading

variable (s : State)

theorem recomputeGrades_keeps : (recomputeGrades s).da.window = s.da.window
    ∧ (recomputeGrades s).da.saturated = s.da.saturated ∧ (recomputeGrades s).da.quietTicks = s.da.quietTicks := by
  rw [recomputeGrades_da]
  simp [regrade]

/-- The one event of a recomputation is GradeChange. -/
theorem recomputeGrades_eventSet {e : Event} (h : e ≠ .gradeChange) : (recomputeGrades s).eventSet e = s.eventSet e := by
  have other : (e.bit == Event.gradeChange.bit) = false := by revert h; cases e <;> decide
  have graded : (regrade s).eventSet e = s.eventSet e := by simp [State.eventSet]
  simp only [recomputeGrades]
  split <;> simp [graded, other]

/-- An event raised touches neither the transaction nor, where there is none, a clearing mark (R194). -/
theorem recomputeGrades_pl : (recomputeGrades s).pl.txn = s.pl.txn
    ∧ (s.pl.clearing = 0 → (recomputeGrades s).pl.clearing = 0) := by
  simp only [recomputeGrades]
  split <;> simp +contextual [raiseEvent_pl]

end Regrading

/-! ## A switch of RAILA to off (R112, R133, R148, R154, R155, R158, R181) -/

section RailOff

variable (s : State)

/-- The drain sample is aborted and the link hold is 0. -/
theorem measureRailOff_mu : (measureRailOff s).mu.reqDrain = false ∧ (measureRailOff s).mu.inFlight ≠ some .drain
    ∧ (measureRailOff s).mu.linkHold = 0 := by
  obtain ⟨request, conversion⟩ := selectOrStop_idle (u := .drain)
    (s := s.withMu { s.mu.abort .drain with linkHold := 0 }) (abort_idle s.mu .drain).1 (abort_idle s.mu .drain).2
  exact ⟨request, conversion, (selectOrStop_keeps _).1⟩

/-- The window, the filter and the phase are cleared, the quiet ticks count from 0, and what is spent stands. -/
theorem drainRailOff_da (h : s.mpc.raila = false) : (drainRailOff s).da.window = List.replicate 16 0
    ∧ (drainRailOff s).da.filtered = 0 ∧ (drainRailOff s).da.saturated = false ∧ (drainRailOff s).da.phase = none
    ∧ (drainRailOff s).da.quietTicks = some 0 ∧ (drainRailOff s).da.rateGrade = 0
    ∧ (drainRailOff s).da.spent = s.da.spent := by
  simp [drainRailOff, recomputeGrades_keeps, recomputeGrades_grades, State.rateGradeNow, h]

/-- The transaction is over and no clearing mark is left, whatever the recomputed grades raise. -/
theorem railOff_pl : (railOff s).pl.txn = none ∧ (railOff s).pl.clearing = 0 := by
  simp only [railOff, drainRailOff, recomputeGrades_pl]
  exact ⟨by simp [linkRailOff], (recomputeGrades_pl _).2 (by simp [linkRailOff])⟩

theorem railOff_eventSet {e : Event} (h : e ≠ .gradeChange) : (railOff s).eventSet e = s.eventSet e := by
  simp only [railOff, drainRailOff, recomputeGrades_eventSet _ h]
  simp [State.eventSet, linkRailOff]

theorem railOff_mu : (railOff s).mu.reqDrain = false ∧ (railOff s).mu.inFlight ≠ some .drain
    ∧ (railOff s).mu.linkHold = 0 := by
  simpa [railOff] using measureRailOff_mu (linkRailOff s)

theorem railOff_da (h : s.mpc.raila = false) : (railOff s).da.window = List.replicate 16 0
    ∧ (railOff s).da.filtered = 0 ∧ (railOff s).da.saturated = false ∧ (railOff s).da.phase = none
    ∧ (railOff s).da.quietTicks = some 0 ∧ (railOff s).da.rateGrade = 0 ∧ (railOff s).da.spent = s.da.spent := by
  simpa [railOff] using drainRailOff_da (measureRailOff (linkRailOff s)) (by simpa using h)

end RailOff

/-! ## The end of Parking (R112, R120, R121) -/

/-- Parking ends in Off with the reports of RAILA's switch, and a Member holds a Status want for its objection. -/
theorem parkDone_spec (s : State) :
    (parkDone s).mpc = { s.mpc.moveTo .off s.mpc.need with
      grace := none, quietDelay := tenths s.settings.quietDelayCode }
    ∧ (parkDone s).pl.txn = none ∧ (parkDone s).pl.clearing = 0
    ∧ (parkDone s).mu.reqDrain = false ∧ (parkDone s).mu.inFlight ≠ some .drain ∧ (parkDone s).mu.linkHold = 0
    ∧ (parkDone s).da.window = List.replicate 16 0 ∧ (parkDone s).da.filtered = 0 ∧ (parkDone s).da.saturated = false
    ∧ (parkDone s).da.phase = none ∧ (parkDone s).da.quietTicks = some 0 ∧ (parkDone s).da.rateGrade = 0
    ∧ (parkDone s).da.spent = s.da.spent
    ∧ (parkDone s).eventSet .parkForced = s.eventSet .parkForced
    ∧ (s.mc.state = .member → (parkDone s).re.status.held = true)
    ∧ changesOnly [.mpc, .re, .mc, .pl, .mu, .da] s (parkDone s) := by
  obtain ⟨u, hu⟩ : ∃ u, u = s.withMpc { s.mpc.moveTo .off s.mpc.need with
    grace := none, quietDelay := tenths s.settings.quietDelayCode } := ⟨_, rfl⟩
  have parked : parkDone s = raiseStatus (railOff u) := by rw [parkDone, hu]
  obtain ⟨txn, clearing⟩ := railOff_pl u
  obtain ⟨request, conversion, hold⟩ := railOff_mu u
  obtain ⟨window, filtered, saturated, phase, ticks, rate, spent⟩ := railOff_da u (by simp [hu, moveTo_off])
  rw [parked]
  simp only [raiseStatus_frame, raiseStatus_eventSet, railOff_eventSet u (e := .parkForced) nofun]
  refine ⟨by simp [hu], txn, clearing, request, conversion, hold, window, filtered, saturated, phase, ticks, rate,
    spent.trans (by simp [hu]), by simp [hu], fun hm => raiseStatus_held _ (by simpa [hu] using hm), ?_⟩
  simp [changesOnly_iff, hu]

theorem exec_graceExpiry {s : State} (hr : s.pins.rstN = true) (hs : s.mpc.state = .parking)
    (hg : s.mpc.grace ≠ none) (hz : s.mpc.frozen = false) :
    exec .graceExpiry s = .next (parkDone (raiseEvent .parkForced s)) := by
  have runs : graceRunsOut s = parkDone (raiseEvent .parkForced s) :=
    if_pos ⟨hs, Option.isSome_iff_ne_none.2 hg, hz⟩
  exact (gated_of_rstN s graceRunsOut hr).trans (congrArg _ runs)

/-- A link command that switches RAILA off leaves its effect alone, with no answer (R181). -/
theorem linkCommand_ends {s : State} {owner : State → Answer} (h : s.linkReady)
    (ha : (owner s).state.mpc.raila = false) : linkCommand owner s = .next (owner s).state := by
  simp [linkCommand, takeCommand, h.1, h.2, ha]

theorem exec_park {s : State} (hl : s.linkReady) (hs : s.mpc.state = .parking) (hz : s.mpc.frozen = false) :
    exec .park s = .next (parkDone s) := by
  have owner : parkAnswer s = done (parkDone s) := by simp [parkAnswer, hs, hz]
  have raila : (parkDone s).mpc.raila = false := by
    rw [(parkDone_spec s).1]
    rfl
  have taken : exec .park s = linkCommand parkAnswer s := rfl
  rw [taken, linkCommand_ends hl (by rw [owner, done, raila]), owner, done]

/-- Settles O36: both ends of Parking are `parkDone`, the one after ParkForced. -/
theorem parkingEndsInOff : Obligations.ParkingEndsInOff := by
  intro s hs hz c hc
  obtain ⟨u, ends, settings, mpc, da, store, member, forced, raised, blocks⟩ : ∃ u, exec c s = .next (parkDone u)
      ∧ u.settings = s.settings ∧ u.mpc = s.mpc ∧ u.da = s.da ∧ u.pl.store = s.pl.store
      ∧ u.mc.state = s.mc.state ∧ u.eventSet .parkForced = (s.eventSet .parkForced || c == .graceExpiry)
      ∧ mayRaise s u ∧ changesOnly [.mpc, .re, .mc, .pl, .mu, .da] s u := by
    rcases hc with ⟨rfl, hr, hg⟩ | ⟨rfl, hl⟩
    · exact ⟨_, exec_graceExpiry hr hs hg hz, rfl, rfl, rfl, rfl, rfl, by simp, raiseEvent_mayRaise _ s,
        by simp [changesOnly_iff]⟩
    · exact ⟨s, exec_park hl hs hz, rfl, rfl, rfl, rfl, rfl, by simp, mayRaise_refl s, by simp [changesOnly_iff]⟩
  obtain ⟨record, txn, clearing, request, conversion, hold, window, filtered, saturated, phase, ticks, rate, spent,
    event, held, changed⟩ := parkDone_spec u
  obtain ⟨want, notice⟩ := (raised.trans (parkDone_mayRaise u)).frames
  refine ⟨_, ends, ?_⟩
  rw [mpc, settings] at record
  rw [record]
  refine ⟨rfl, rfl, rfl, rfl, rfl, by simp [tenths, Config.tenthPeriods], rfl, txn, clearing, notice.2.2, request,
    conversion, hold, window, filtered, saturated, phase, ticks, rate, spent.trans (by rw [da]), event.trans forced,
    fun hm => held (member.trans hm), changesOnly_trans blocks changed, want, notice⟩

end Sys2Proof.Machine

namespace Sys2Proof.Machine

/-! ## CLEAR_CUT (R115, R124, R127, R128) -/

section ClearCut

variable {s : State}

theorem changesOnly_mono {t : State} {bs cs : List Block} (hb : bs ⊆ cs) (h : changesOnly bs s t) : changesOnly cs s t :=
  fun b hn => h b fun hm => hn (hb hm)

/-- A link command that is taken has its owner's effect, whether its answer is formed or RAILA's switch to off ended the
transaction (R181, R182). -/
theorem linkCommand_effect (owner : State → Answer) (h : s.linkReady) : ∃ t, linkCommand owner s = .next t
    ∧ noticeFrame (owner s).state t ∧ changesOnly [.pl] (owner s).state t := by
  cases ha : (owner s).state.mpc.raila with
  | true => exact ⟨_, linkCommand_answers h ha, ⟨rfl, rfl, rfl⟩, by simp [changesOnly_iff]⟩
  | false => exact ⟨_, linkCommand_ends h ha, ⟨rfl, rfl, rfl⟩, by simp [changesOnly_iff]⟩

theorem setLoud_mpc (n : Nat) (s : State) : (setLoud n s).mpc = { s.mpc with loud := n } := by
  simp only [setLoud]
  split <;> simp

theorem leaveCut_mpc (s : State) : (leaveCut s).mpc = { s.mpc.moveTo .off s.mpc.need with loud := 0 } := by
  simp [leaveCut]

/-- A module that has left Cut has its need evaluated, unless it is frozen: Off on an empty need, else Powering. -/
theorem evaluateNeed_leaveCut (hf : s.fixed = true) : (evaluateNeed (leaveCut s)).mpc.loud = 0
    ∧ (evaluateNeed (leaveCut s)).mpc.feed = true ∧ (evaluateNeed (leaveCut s)).mpc.state
      = (if s.mpc.frozen = true ∨ s.needNow = .empty then .off else .powering) := by
  have mpc := leaveCut_mpc s
  have need : (leaveCut s).needNow = s.needNow :=
    needNow_congr (settings_congr _ _ (by simp) (by simp)) (by simp) (by simp)
  have fixed : (leaveCut s).fixed = true := (fixed_congr s _ (by simp)).trans hf
  cases hz : s.mpc.frozen with
  | true =>
    rw [evaluateNeed_of_frozen (by simp [mpc, hz])]
    simp [mpc, moveTo_off]
  | false =>
    rw [evaluateNeed_of_off fixed (by simp [mpc, hz]) (by simp [mpc]), need]
    split
    next empty => simp [recordNeed, mpc, moveTo_off, empty]
    next wanted => simp [enterPowering, Mpc.moveTo, mpc, wanted]

theorem clearCutAnswer_of_cut (hf : s.fixed = true) (hc : s.mpc.state = .cut) :
    clearCutAnswer s = done (evaluateNeed (leaveCut s)) := by
  simp [clearCutAnswer, hf, hc]

theorem clearCutAnswer_of_not_cut (hf : s.fixed = true) (hc : s.mpc.state ≠ .cut) :
    clearCutAnswer s = done (setLoud 0 s) := by
  simp [clearCutAnswer, hf, hc]

end ClearCut

/-- Settles O37. -/
theorem clearCutClearsTheCount : Obligations.ClearCutClearsTheCount := by
  intro s hl
  refine ⟨fun hf => linkCommand_unmoved hl (if_pos (by simp [hf])), fun hf hc => ?_, fun hf hc => ?_⟩
  · have owner := clearCutAnswer_of_not_cut hf hc
    have raila : (setLoud 0 s).mpc.raila = true := by simpa [setLoud_mpc] using linkReady_raila s hl
    have taken := linkCommand_answers (owner := clearCutAnswer) hl (by rw [owner, done, raila])
    obtain ⟨want, notice⟩ := (setLoud_mayRaise 0 s).frames
    rw [owner] at taken
    exact ⟨_, taken, rfl, setLoud_mpc 0 s, by simp [changesOnly_iff, done], want, notice⟩
  · obtain ⟨t, taken, link, rest⟩ := linkCommand_effect clearCutAnswer hl
    rw [clearCutAnswer_of_cut hf hc, done] at link rest
    have raised := (leaveCut_mayRaise s).trans (evaluateNeed_mayRaise (leaveCut s))
    have held : s.mc.state = .member → (evaluateNeed (leaveCut s)).re.status.held = true := fun hm =>
      (evaluateNeed_mayRaise _).held (raiseStatus_held _ (by simpa using hm))
    obtain ⟨loud, feed, state⟩ := evaluateNeed_leaveCut hf
    obtain ⟨want, notice⟩ := raised.frames
    have mpc : t.mpc = (evaluateNeed (leaveCut s)).mpc := rest .mpc (by decide)
    have re : t.re = (evaluateNeed (leaveCut s)).re := rest .re (by decide)
    have mc : t.mc = (evaluateNeed (leaveCut s)).mc := rest .mc (by decide)
    refine ⟨t, taken, ?_⟩
    rw [mpc, re, wantFrame, re, mc]
    exact ⟨loud, feed, state, held, want,
      ⟨link.1.trans notice.1, link.2.1.trans notice.2.1, link.2.2.trans notice.2.2⟩,
      changesOnly_trans (by simp [changesOnly_iff]) (changesOnly_mono (by decide) rest)⟩

end Sys2Proof.Machine

namespace Sys2Proof.Machine

/-! ## What the samples and the checks may raise (R124, R125, R157 to R161, R164) -/

section Charges

variable (s : State)

theorem charge_mayRaise (n : Nat) : mayRaise s (charge n s) := by
  have charged : ∀ d, mayRaise s (s.withDa d) := fun d => mayRaise_of_eq rfl rfl rfl rfl
  simp only [charge]
  split
  · exact (charged _).trans (raiseEvent_mayRaise _ _)
  · exact charged _

theorem sampleEntry_mayRaise (x : BitVec 12) : mayRaise s (sampleEntry x s) := by
  have entered : mayRaise s (enterWindow x s) := mayRaise_of_eq rfl rfl rfl rfl
  have filtered : ∀ u, mayRaise u (applyFilter u) := fun u => mayRaise_of_eq rfl rfl rfl rfl
  refine iteInduction (motive := mayRaise s) (fun _ => ?_) fun _ => mayRaise_refl s
  exact ((entered.trans (charge_mayRaise _ _)).trans (filtered _)).trans (recomputeGrades_mayRaise _)

/-- A charge touches what is spent and the exhausted mark alone (R159, R161). -/
theorem charge_keeps (n : Nat) : (charge n s).da.window = s.da.window ∧ (charge n s).da.phase = s.da.phase
    ∧ (charge n s).da.quietTicks = s.da.quietTicks := by
  simp only [charge]
  split <;> simp

/-- A sample entry puts its code at position 0 and leaves the phase alone (R155). -/
theorem sampleEntry_da {s : State} (hf : s.fixed = true) (x : BitVec 12) :
    (sampleEntry x s).da.window = x :: s.da.window.take 15 ∧ (sampleEntry x s).da.phase = s.da.phase := by
  simp [sampleEntry, hf, recomputeGrades_keeps, recomputeGrades_grades, applyFilter, charge_keeps, enterWindow]

end Charges

/-! ## A request and its conversion (R134, R136, R139, R140) -/

section Requests

variable {s : State} {u : User}

/-- A pending request is pending or has its conversion begun after a selection. -/
theorem select_asks (h : s.mu.requested u = true) :
    (select s).mu.requested u = true ∨ (select s).mu.inFlight = some u := by
  rcases select_cases s with same | ⟨v, -, -, -, begun⟩
  · exact .inl (by rw [same, h])
  · rw [begun]
    by_cases same : u = v
    · exact .inr (by simp [same])
    · exact .inl ((requested_setRequest s.mu v u false).trans ((if_neg same).trans h))

theorem select_timers (s : State) : (select s).mu.batteryTimer = s.mu.batteryTimer
    ∧ (select s).mu.quietTimer = s.mu.quietTimer := by
  rcases select_cases s with same | ⟨v, -, -, -, begun⟩
  · simp [same]
  · simp [begun]

/-- A pending request that is served is pending still or its conversion has begun, and a stopped or failed clock has
started an attempt. -/
theorem serveRequest_spec (h : s.mu.requested u = true) :
    ((serveRequest s).mu.requested u = true ∨ (serveRequest s).mu.inFlight = some u)
      ∧ (s.mu.clock = .stopped ∨ s.mu.clock = .failed →
        (serveRequest s).mu.clock = .settling ∧ (serveRequest s).mu.startTime = some s.time)
      ∧ (serveRequest s).mu.batteryTimer = s.mu.batteryTimer ∧ (serveRequest s).mu.quietTimer = s.mu.quietTimer := by
  cases hc : s.mu.clock with
  | stopped | failed =>
    have attempted : serveRequest s = startAttempt s := by simp [serveRequest, hc]
    rw [attempted]
    exact ⟨.inl h, fun _ => ⟨rfl, rfl⟩, rfl, rfl⟩
  | settling => simp [serveRequest, hc, h]
  | running => simpa [serveRequest, hc] using ⟨select_asks h, select_timers s⟩

theorem request_new (h : s.mu.requested u = false) : request u s = serveRequest (s.withMu (s.mu.setRequest u true)) :=
  if_neg (by simp [h])

/-- A request taken, new or merged: it is pending or its conversion has begun (R139). -/
theorem request_spec (h : u = .drain → s.mu.reqDrain = false) :
    ((request u s).mu.requested u = true ∨ (request u s).mu.inFlight = some u)
      ∧ (s.mu.requested u = false → s.mu.clock = .stopped ∨ s.mu.clock = .failed →
        (request u s).mu.clock = .settling ∧ (request u s).mu.startTime = some s.time)
      ∧ (request u s).mu.batteryTimer = s.mu.batteryTimer ∧ (request u s).mu.quietTimer = s.mu.quietTimer
      ∧ changesOnly [.mu] s (request u s) := by
  cases hu : s.mu.requested u with
  | true =>
    have merged : request u s = s := by
      have other : u ≠ .drain := fun hd => by subst hd; exact absurd hu (by simp [Mu.requested, h rfl])
      simp [request, hu, other]
    rw [merged]
    exact ⟨.inl hu, nofun, rfl, rfl, by simp [changesOnly_iff]⟩
  | false =>
    rw [request_new hu]
    obtain ⟨asks, starts, battery, quiet⟩ :=
      serveRequest_spec (s := s.withMu (s.mu.setRequest u true)) (u := u) (by simp)
    exact ⟨asks, fun _ hc => starts (by simpa using hc), by simp [battery], by simp [quiet], by simp [changesOnly_iff]⟩

end Requests

/-! ## The timers that ask for a check, and the sample boundary (R129, R141 to R143, R154) -/

section Schedules

variable {s : State}

theorem batteryInterval_eq (c : Store) (n : NetState) :
    c.batteryInterval n = if n = .rest then 256 * c.restBatteryCode else 64 * c.awakeBatteryCode := by
  cases n <;> rfl

theorem quietInterval_eq (c : Store) (g : Grade) :
    c.quietInterval g = (if g.val < 4 then 64 else 128) * c.quietIntervalCode := by
  simp only [Store.quietInterval]
  split <;> rfl

theorem batteryTimerRunsOut_running (h : s.mu.batteryTimer ≠ none) : batteryTimerRunsOut s
    = request .battery (s.withMu { s.mu with batteryTimer := some (s.settings.batteryInterval s.ev.net) }) :=
  if_pos (Option.isSome_iff_ne_none.2 h)

theorem quietIntervalRunsOut_running (h : s.mu.quietTimer ≠ none) : quietIntervalRunsOut s = requestQuiet s :=
  if_pos (Option.isSome_iff_ne_none.2 h)

theorem quietDelayRunsOut_running (h : s.mpc.quietDelay ≠ none) :
    quietDelayRunsOut s = requestQuiet (s.withMpc { s.mpc with quietDelay := none }) :=
  if_pos (Option.isSome_iff_ne_none.2 h)

theorem sampleBoundary_running (hf : s.fixed = true) (h : s.da.phase ≠ none) :
    sampleBoundary s = request .drain (s.withDa { s.da with phase := some 0 }) :=
  if_pos (by simp [hf, Option.isSome_iff_ne_none.2 h])

/-- A quiet check requested: its timer is loaded for the grade, and the request is pending or its conversion has begun
(R142). -/
theorem requestQuiet_spec (s : State) :
    (requestQuiet s).mu.quietTimer = some ((if s.ev.grade.val < 4 then 64 else 128) * s.settings.quietIntervalCode)
      ∧ ((requestQuiet s).mu.reqQuiet = true ∨ (requestQuiet s).mu.inFlight = some .quiet)
      ∧ (s.mu.reqQuiet = false → s.mu.clock = .stopped ∨ s.mu.clock = .failed →
        (requestQuiet s).mu.clock = .settling ∧ (requestQuiet s).mu.startTime = some s.time)
      ∧ changesOnly [.mu] s (requestQuiet s) := by
  obtain ⟨asks, starts, -, timer, blocks⟩ := request_spec (u := .quiet)
    (s := s.withMu { s.mu with quietTimer := some (s.settings.quietInterval s.ev.grade) }) nofun
  refine ⟨timer.trans ?_, asks, starts, changesOnly_trans (by simp [changesOnly_iff]) blocks⟩
  rw [State.withMu_mu, quietInterval_eq]

/-- The battery timer that runs out is reloaded for the network state, with its request (R141). -/
theorem batteryTimerRunsOut_spec (h : s.mu.batteryTimer ≠ none) :
    (batteryTimerRunsOut s).mu.batteryTimer = some (if s.ev.net = .rest then 256 * s.settings.restBatteryCode
        else 64 * s.settings.awakeBatteryCode)
      ∧ ((batteryTimerRunsOut s).mu.reqBattery = true ∨ (batteryTimerRunsOut s).mu.inFlight = some .battery)
      ∧ (s.mu.reqBattery = false → s.mu.clock = .stopped ∨ s.mu.clock = .failed →
        (batteryTimerRunsOut s).mu.clock = .settling ∧ (batteryTimerRunsOut s).mu.startTime = some s.time)
      ∧ changesOnly [.mu] s (batteryTimerRunsOut s) := by
  rw [batteryTimerRunsOut_running h]
  obtain ⟨asks, starts, timer, -, blocks⟩ := request_spec (u := .battery)
    (s := s.withMu { s.mu with batteryTimer := some (s.settings.batteryInterval s.ev.net) }) nofun
  refine ⟨timer.trans ?_, asks, starts, changesOnly_trans (by simp [changesOnly_iff]) blocks⟩
  rw [State.withMu_mu, batteryInterval_eq]

/-- A sample boundary with no drain request pending: the phase restarts and the sample is requested (R154). -/
theorem sampleBoundary_new (hf : s.fixed = true) (h : s.da.phase ≠ none) (hd : s.mu.reqDrain = false) :
    (sampleBoundary s).da = { s.da with phase := some 0 }
      ∧ ((sampleBoundary s).mu.reqDrain = true ∨ (sampleBoundary s).mu.inFlight = some .drain)
      ∧ (s.mu.clock = .stopped ∨ s.mu.clock = .failed →
        (sampleBoundary s).mu.clock = .settling ∧ (sampleBoundary s).mu.startTime = some s.time)
      ∧ changesOnly [.mu, .da] s (sampleBoundary s) := by
  rw [sampleBoundary_running hf h]
  obtain ⟨asks, starts, -, -, blocks⟩ := request_spec (u := .drain)
    (s := s.withDa { s.da with phase := some 0 }) fun _ => hd
  exact ⟨blocks .da (by decide), asks, starts hd,
    changesOnly_trans (by simp [changesOnly_iff]) (changesOnly_mono (by decide) blocks)⟩

/-- A sample boundary with a drain request pending is a missed sample: the code at position 0 enters again (R143, R155). -/
theorem sampleBoundary_merged (hf : s.fixed = true) (h : s.da.phase ≠ none) (hd : s.mu.reqDrain = true) :
    sampleBoundary s = sampleEntry (s.da.window.getD 0 0) (s.withDa { s.da with phase := some 0 }) := by
  rw [sampleBoundary_running hf h]
  exact (if_pos (by simpa [Mu.requested] using hd)).trans (if_pos rfl)

end Schedules

/-- Settles O38. -/
theorem schedulesRequestTheirConversions : Obligations.SchedulesRequestTheirConversions := by
  refine ⟨fun s hr => ⟨fun h => ?_, fun h => ?_, fun h => ?_⟩, fun s hr hf h => ⟨fun hd => ?_, fun hd => ?_⟩⟩
  · exact ⟨_, gated_of_rstN s batteryTimerRunsOut hr, batteryTimerRunsOut_spec h⟩
  · refine ⟨_, gated_of_rstN s quietIntervalRunsOut hr, ?_⟩
    rw [quietIntervalRunsOut_running h]
    exact requestQuiet_spec s
  · refine ⟨_, gated_of_rstN s quietDelayRunsOut hr, ?_⟩
    rw [quietDelayRunsOut_running h]
    obtain ⟨timer, asks, starts, blocks⟩ := requestQuiet_spec (s.withMpc { s.mpc with quietDelay := none })
    exact ⟨timer, asks, starts, blocks .mpc (by decide),
      changesOnly_trans (by simp [changesOnly_iff]) (changesOnly_mono (by decide) blocks)⟩
  · exact ⟨_, gated_of_rstN s sampleBoundary hr, sampleBoundary_new hf h hd⟩
  · refine ⟨_, gated_of_rstN s sampleBoundary hr, ?_⟩
    rw [sampleBoundary_merged hf h hd]
    obtain ⟨u, hu⟩ : ∃ u, u = s.withDa { s.da with phase := some 0 } := ⟨_, rfl⟩
    obtain ⟨window, phase⟩ := sampleEntry_da (s := u) ((fixed_congr s u (by simp [hu])).trans hf) (s.da.window.getD 0 0)
    have restarted : mayRaise s u := mayRaise_of_eq (by simp [hu]) (by simp [hu]) (by simp [hu]) (by simp [hu])
    obtain ⟨want, notice⟩ := (restarted.trans (sampleEntry_mayRaise u (s.da.window.getD 0 0))).frames
    rw [← hu]
    exact ⟨phase.trans (by simp [hu]), window.trans (by simp [hu]), by simp [hu], by simp [changesOnly_iff, hu], want,
      notice⟩

end Sys2Proof.Machine

namespace Sys2Proof.Machine

/-! ## The outcome of a quiet check (R125, R126, R144, R146, R158) -/

section QuietCheck

variable {s : State}

theorem enterCut_mayRaise (s : State) : mayRaise s (enterCut s) := by
  have moved : ∀ m, mayRaise s (s.withMpc m) := fun m => mayRaise_of_eq rfl rfl rfl rfl
  exact ((moved _).trans (raiseEvent_mayRaise .feedCut _)).trans (raiseStatus_mayRaise _)

theorem loudOutcome_mayRaise (s : State) : mayRaise s (loudOutcome s) := by
  simp only [loudOutcome]
  split
  · exact (setLoud_mayRaise _ s).trans (enterCut_mayRaise _)
  · exact setLoud_mayRaise _ s

theorem quietCharge_mayRaise (q : Nat) (s : State) : mayRaise s (quietCharge q s) := by
  have counted : ∀ u d, mayRaise u (State.withDa u d) := fun u d => mayRaise_of_eq rfl rfl rfl rfl
  simp only [quietCharge]
  split
  · exact ((charge_mayRaise s _).trans (counted _ _)).trans (recomputeGrades_mayRaise _)
  · exact mayRaise_refl s

theorem quietCheckOutcome_mayRaise (q : Nat) (s : State) : mayRaise s (quietCheckOutcome q s) := by
  have stored : ∀ m, mayRaise s (s.withMu m) := fun m => mayRaise_of_eq rfl rfl rfl rfl
  simp only [quietCheckOutcome]
  split
  · exact ((stored _).trans (loudOutcome_mayRaise _)).trans (quietCharge_mayRaise _ _)
  · exact (setLoud_mayRaise 0 s).trans (quietCharge_mayRaise _ _)

theorem selectOrStop_mayRaise (s : State) : mayRaise s (selectOrStop s) :=
  mayRaise_of_eq (by simp) (by simp) (by simp) (by simp)

/-- A loud outcome counts up to 7 and moves the module only from Off into Cut, where the cut is enabled and this outcome
takes the count from below the loud limit to it (R125, R126; log 29). -/
theorem loudOutcome_mpc (s : State) : (loudOutcome s).mpc.loud = min (s.mpc.loud + 1) 7
    ∧ (loudOutcome s).mpc.state = (if s.settings.cutEnabled = true ∧ s.mpc.state = .off
        ∧ s.mpc.loud < s.settings.loudLimit ∧ s.settings.loudLimit ≤ min (s.mpc.loud + 1) 7
      then .cut else s.mpc.state) := by
  have guard : (s.settings.cutEnabled && s.mpc.state == .off && decide (s.mpc.loud < s.settings.loudLimit)
      && decide (s.settings.loudLimit ≤ min (s.mpc.loud + 1) 7)) = true
      ↔ s.settings.cutEnabled = true ∧ s.mpc.state = .off ∧ s.mpc.loud < s.settings.loudLimit
        ∧ s.settings.loudLimit ≤ min (s.mpc.loud + 1) 7 := by
    simp only [Bool.and_eq_true, beq_iff_eq, decide_eq_true_eq, and_assoc]
  simp only [loudOutcome, guard]
  split
  · simp [enterCut, setLoud_mpc]
  · simp [setLoud_mpc]

theorem quietOutcome_mpc (s : State) : (quietOutcome s).mpc = { s.mpc with loud := 0 } := setLoud_mpc 0 s

/-- The ticks counted are charged at the code given, and counted from 0 again (R158). -/
theorem quietCharge_da {n : Nat} (h : s.da.quietTicks = some n) (q : Nat) :
    (quietCharge q s).da.spent = min (s.da.spent + q * n) Config.spentMax ∧ (quietCharge q s).da.quietTicks = some 0
      ∧ (quietCharge q s).da.window = s.da.window ∧ (quietCharge q s).da.phase = s.da.phase := by
  simp [quietCharge, h, recomputeGrades_keeps, recomputeGrades_grades, charge_spent, charge_keeps]

/-- The outcome of a quiet check with its code, while the quiet ticks count. -/
theorem quietCheckOutcome_spec {n : Nat} (h : s.da.quietTicks = some n) (q : Nat) :
    (quietCheckOutcome q s).mu = { s.mu with
        quietRecord := if s.settings.quietLimit ≤ q then some (q - s.settings.quietLimit) else s.mu.quietRecord }
      ∧ (quietCheckOutcome q s).mpc.loud = (if s.settings.quietLimit ≤ q then min (s.mpc.loud + 1) 7 else 0)
      ∧ (quietCheckOutcome q s).mpc.state = (if s.settings.quietLimit ≤ q ∧ s.settings.cutEnabled = true
          ∧ s.mpc.state = .off ∧ s.mpc.loud < s.settings.loudLimit ∧ s.settings.loudLimit ≤ min (s.mpc.loud + 1) 7
        then .cut else s.mpc.state)
      ∧ (quietCheckOutcome q s).da.spent
        = min (s.da.spent + (if s.settings.quietLimit ≤ q then q else s.settings.quietFloor) * n) Config.spentMax
      ∧ (quietCheckOutcome q s).da.quietTicks = some 0 ∧ (quietCheckOutcome q s).da.window = s.da.window
      ∧ (quietCheckOutcome q s).da.phase = s.da.phase := by
  simp only [quietCheckOutcome]
  by_cases loud : s.settings.quietLimit ≤ q
  · obtain ⟨u, hu⟩ : ∃ u, u = s.withMu { s.mu with quietRecord := some (q - s.settings.quietLimit) } := ⟨_, rfl⟩
    have settings : u.settings = s.settings := settings_congr _ _ (by simp [hu]) (by simp [hu])
    obtain ⟨count, state⟩ := loudOutcome_mpc u
    obtain ⟨spent, ticks, window, phase⟩ := quietCharge_da (s := loudOutcome u) (by simpa [hu] using h) q
    rw [settings] at state
    simp only [loud, if_true, true_and, ← hu]
    refine ⟨by simp [hu], ?_, ?_, spent.trans (by simp [hu]), ticks, window.trans (by simp [hu]),
      phase.trans (by simp [hu])⟩
    · simpa [hu] using count
    · simpa [hu] using state
  · obtain ⟨spent, ticks, window, phase⟩ :=
      quietCharge_da (s := quietOutcome s) (by simpa using h) s.settings.quietFloor
    simp only [loud, if_false, false_and]
    exact ⟨by simp, by simp [quietOutcome_mpc], by simp [quietOutcome_mpc], spent.trans (by simp), ticks,
      window.trans (by simp), phase.trans (by simp)⟩

end QuietCheck

/-- Settles O44: whatever code R138 gives the input, its outcome is that of the quiet check, and the selection that
follows leaves the records alone. -/
theorem quietCheckChargesItsTicks : Obligations.QuietCheckChargesItsTicks := by
  intro s v n hr hq hn
  obtain ⟨x, code, ends⟩ := conversionEnds_delivers s .quiet hq v
  obtain ⟨u, hu⟩ : ∃ u, u = s.withMu { s.mu with inFlight := none, conversions := s.mu.conversions + 1 } := ⟨_, rfl⟩
  have settings : u.settings = s.settings := settings_congr _ _ (by simp [hu]) (by simp [hu])
  rw [← hu, deliver] at ends
  obtain ⟨mu, loud, state, spent, ticks, window, phase⟩ :=
    quietCheckOutcome_spec (s := u) (n := n) (by simpa [hu] using hn) x.toNat
  obtain ⟨-, record, deficit, low⟩ := selectOrStop_keeps (quietCheckOutcome x.toNat u)
  have raised : mayRaise s (selectOrStop (quietCheckOutcome x.toNat u)) := by
    have ended : mayRaise s u := mayRaise_of_eq (by simp [hu]) (by simp [hu]) (by simp [hu]) (by simp [hu])
    exact (ended.trans (quietCheckOutcome_mayRaise _ u)).trans (selectOrStop_mayRaise _)
  obtain ⟨want, notice⟩ := raised.frames
  refine ⟨x, code, _, (gated_of_rstN s (conversionEnds v) hr).trans (congrArg _ ends), ?_⟩
  rw [settings] at mu loud state spent
  rw [record, deficit, low, mu]
  simp only [selectOrStop_frame]
  refine ⟨by simp [hu], by simpa [hu] using loud, by simpa [hu, Config.spentMax] using spent, ticks,
    by simpa [hu] using window, by simpa [hu] using phase, by simpa [hu] using state, by simp [hu], by simp [hu],
    by simp [changesOnly_iff, hu], want, notice⟩

end Sys2Proof.Machine

namespace Sys2Proof.Machine

/-! ## The stop of the clock, and the end of the link hold (R133, R137) -/

section ClockStop

variable {s : State}

theorem stopIdleClock_clock (s : State) : (stopIdleClock s).mu.clock
    = if (s.mu.clock = .settling ∨ s.mu.clock = .running) ∧ s.demand = false then .stopped else s.mu.clock := by
  simp only [stopIdleClock]
  split <;> rfl

/-- With the link hold at 0 the demands are the requests, the conversion in flight and a live assertion of LCS_N. -/
theorem demand_eq_false_iff (h : s.mu.linkHold = 0) : s.demand = false
    ↔ ¬ (s.mu.anyRequest = true ∨ s.mu.inFlight ≠ none ∨ s.pins.lcs = true ∧ s.mpc.raila = true) := by
  rw [← Bool.not_eq_true]
  simp [State.demand, h, Option.isSome_iff_ne_none, or_assoc]

theorem linkHoldRunsOut_of_zero (h : s.mu.linkHold = 0) : linkHoldRunsOut s = s := if_neg (by omega)

/-- The link hold that runs out is 0, and the clock stops without another demand. -/
theorem linkHoldRunsOut_mu (h : 0 < s.mu.linkHold) : (linkHoldRunsOut s).mu.linkHold = 0
    ∧ (linkHoldRunsOut s).mu.clock = (if (s.mu.clock = .settling ∨ s.mu.clock = .running)
          ∧ ¬ (s.mu.anyRequest = true ∨ s.mu.inFlight ≠ none ∨ s.pins.lcs = true ∧ s.mpc.raila = true)
        then .stopped else s.mu.clock) := by
  have ended : linkHoldRunsOut s = stopIdleClock (s.withMu { s.mu with linkHold := 0 }) := if_pos h
  constructor
  · rw [ended, stopIdleClock_mu]
    rfl
  · simp only [ended, stopIdleClock_clock, demand_eq_false_iff (s := s.withMu { s.mu with linkHold := 0 }) rfl]
    rfl

end ClockStop

/-- Settles O41 (its own name is that of the model's operation). -/
theorem linkHoldRunsOutAtExpiry : Obligations.LinkHoldRunsOut := by
  intro s hr
  have runs : exec .linkHoldExpiry s = .next (linkHoldRunsOut s) := gated_of_rstN s linkHoldRunsOut hr
  rw [runs]
  refine ⟨fun h => by rw [linkHoldRunsOut_of_zero h], fun h => ?_⟩
  obtain ⟨hold, clock⟩ := linkHoldRunsOut_mu h
  exact ⟨_, rfl, hold, clock, by simp [changesOnly_iff]⟩

end Sys2Proof.Machine

namespace Sys2Proof.Machine

/-! ## The clock's confirmation (R134, R136, R140) -/

section ClockConfirmed

variable {s : State}

theorem settleInterval_eq (c : Store) : c.settleInterval = if c.clockSettleCode = 0 then 17
    else if c.clockSettleCode = 1 then 33 else if c.clockSettleCode = 2 then 66 else 132 := by
  have few : c.clockSettleCode < 4 := Nat.mod_lt _ (by decide)
  rw [Store.settleInterval]
  interval_cases c.clockSettleCode <;> rfl

/-- An attempt has settled when its interval has passed since its start time, if it has one. -/
theorem settled_iff : s.settled = true
    ↔ ∀ n, s.mu.startTime = some n → n + s.settings.settleInterval ≤ s.time := by
  cases hn : s.mu.startTime <;> simp [State.settled, hn]

/-- An MU with no request and no conversion is the same with each of them dropped again. -/
theorem mu_of_idle {m : Mu} (hb : m.reqBattery = false) (hq : m.reqQuiet = false) (hd : m.reqDrain = false)
    (hi : m.inFlight = none) :
    m = { m with inFlight := none, reqBattery := false, reqQuiet := false, reqDrain := false } := by
  cases m
  cases hb
  cases hq
  cases hd
  cases hi
  rfl

/-- A selection with the clock Running and the converter idle: the pending request of highest priority has its
conversion started, and its flag is cleared (R140). -/
theorem select_mu_of_idle (hc : s.mu.clock = .running) (hi : s.mu.inFlight = none) : (select s).mu = { s.mu with
    inFlight := s.mu.highest, reqBattery := false, reqQuiet := s.mu.reqQuiet && s.mu.reqBattery
    reqDrain := s.mu.reqDrain && (s.mu.reqBattery || s.mu.reqQuiet) } := by
  rw [select, if_pos ⟨hc, hi⟩]
  cases battery : s.mu.reqBattery with
  | true => simp [Mu.highest, Mu.setRequest, battery]
  | false =>
    cases quiet : s.mu.reqQuiet with
    | true => simp [Mu.highest, Mu.setRequest, battery, quiet]
    | false =>
      cases drain : s.mu.reqDrain with
      | true => simp [Mu.highest, Mu.setRequest, battery, quiet, drain]
      | false =>
        have unasked : s.mu.highest = none := by simp [Mu.highest, battery, quiet, drain]
        rw [unasked]
        exact mu_of_idle battery quiet drain hi

theorem setClockFault_mu (b : Bool) (s : State) : (setClockFault b s).mu = { s.mu with clockFault := b } := by
  simp only [setClockFault]
  split
  next same => rw [← same]
  next => simp

theorem setClockFault_same {b : Bool} (h : s.mu.clockFault = b) : setClockFault b s = s := if_pos h

/-- A change of the ClockFault drive value leaves a Member with a Status want. -/
theorem setClockFault_held {b : Bool} (h : s.mu.clockFault ≠ b) (hm : s.mc.state = .member) :
    (setClockFault b s).re.status.held = true := by
  rw [setClockFault, if_neg h]
  exact raiseStatus_held _ hm

theorem setClockFault_mayRaise (b : Bool) (s : State) : mayRaise s (setClockFault b s) :=
  iteInduction (motive := mayRaise s) (fun _ => mayRaise_refl s) fun _ =>
    .trans (mayRaise_of_eq rfl rfl rfl rfl) (raiseStatus_mayRaise _)

/-- The MU after a confirmation with the converter idle. -/
theorem clockConfirmed_mu (hi : s.mu.inFlight = none) : (clockConfirmed s).mu = { s.mu with
    clock := .running, startTime := none, clockFault := false, inFlight := s.mu.highest, reqBattery := false
    reqQuiet := s.mu.reqQuiet && s.mu.reqBattery
    reqDrain := s.mu.reqDrain && (s.mu.reqBattery || s.mu.reqQuiet) } := by
  rw [clockConfirmed, select_mu_of_idle (by simp [setClockFault_mu]) (by simpa [setClockFault_mu] using hi),
    setClockFault_mu]
  rfl

theorem clockConfirmed_mayRaise (s : State) : mayRaise s (clockConfirmed s) := by
  have running : ∀ m, mayRaise s (s.withMu m) := fun m => mayRaise_of_eq rfl rfl rfl rfl
  have selected : ∀ u, mayRaise u (select u) := fun u => mayRaise_of_eq (by simp) (by simp) (by simp) (by simp)
  exact ((running _).trans (setClockFault_mayRaise false _)).trans (selected _)

theorem clockConfirmed_held (h : s.mu.clockFault = true) (hm : s.mc.state = .member) :
    (clockConfirmed s).re.status.held = true := by
  simp only [clockConfirmed, select_frame]
  exact setClockFault_held (by simp [h]) hm

/-- With no fault to release a confirmation touches the MU alone. -/
theorem clockConfirmed_quiet (h : s.mu.clockFault = false) : changesOnly [.mu] s (clockConfirmed s) := by
  rw [clockConfirmed, setClockFault_same (by exact h)]
  simp [changesOnly_iff]

theorem exec_clockConfirmed (hr : s.pins.rstN = true) (hc : s.mu.clock = .settling) :
    exec .clockConfirmed s = .next (if s.settled = true then clockConfirmed s else s) := by
  have gate : exec .clockConfirmed s
      = .next (if s.mu.clock = .settling ∧ s.settled = true then clockConfirmed s else s) := gated_of_rstN s _ hr
  simpa only [hc, true_and] using gate

end ClockConfirmed

/-- Settles O39. -/
theorem clockConfirmedRuns : Obligations.ClockConfirmedRuns := by
  intro s d hr hc hd
  rw [← settleInterval_eq] at hd
  rw [exec_clockConfirmed hr hc]
  refine ⟨fun n hn early => ?_, fun hi late => ?_⟩
  · have waits : ¬ s.settled = true := fun h => by
      have := settled_iff.1 h n hn
      omega
    rw [if_neg waits]
  · rw [if_pos (settled_iff.2 (by rwa [← hd]))]
    refine ⟨_, rfl, ?_⟩
    rw [clockConfirmed_mu hi]
    exact ⟨rfl, rfl, rfl, rfl, rfl, rfl, rfl, clockConfirmed_held, clockConfirmed_quiet, by simp [changesOnly_iff],
      (clockConfirmed_mayRaise s).frames.1⟩

end Sys2Proof.Machine

namespace Sys2Proof.Machine

/-! ## The events and the transaction under a recomputation and a sample (R155 to R164, R193) -/

section Samples

variable {s t : State}

/-- What may raise events clears none. -/
theorem mayRaise.eventSet (h : mayRaise s t) {e : Event} (hs : s.eventSet e = true) : t.eventSet e = true := by
  obtain ⟨⟨-, -, -, -, -, -, -, -, kept⟩, -⟩ := h
  exact kept e hs

/-- A charge adds to what is spent, and the account is exhausted from the allowance on (R159, R161). -/
theorem charge_da (n : Nat) (s : State) : (charge n s).da = { s.da with
    spent := min (s.da.spent + n) Config.spentMax
    exhausted := s.da.exhausted || decide (s.settings.allowance ≤ min (s.da.spent + n) Config.spentMax) } := by
  simp only [charge]
  generalize min (s.da.spent + n) Config.spentMax = total
  cases hx : s.da.exhausted with
  | true => simp
  | false => by_cases spent : s.settings.allowance ≤ total <;> simp [spent]

/-- The one event of a charge is AccountExhausted, at the charge that exhausts the account (R161). -/
theorem charge_eventSet (n : Nat) (s : State) (e : Event) : (charge n s).eventSet e = (s.eventSet e
    || (!s.da.exhausted && decide (s.settings.allowance ≤ min (s.da.spent + n) Config.spentMax)
      && e.bit == Event.accountExhausted.bit)) := by
  have kept : ∀ d, (s.withDa d).eventSet e = s.eventSet e := fun _ => rfl
  simp only [charge]
  generalize min (s.da.spent + n) Config.spentMax = total
  split
  next now =>
    rw [Bool.and_comm] at now
    simp only [eventSet_raiseEvent, kept, now, Bool.true_and]
  next later =>
    rw [Bool.not_eq_true, Bool.and_comm] at later
    simp only [kept, later, Bool.false_and, Bool.or_false]

theorem charge_txn (n : Nat) (s : State) : (charge n s).pl.txn = s.pl.txn := by
  simp only [charge]
  split <;> rfl

/-- GradeChange is raised when the pressure changes (R164). -/
theorem recomputeGrades_gradeChange (s : State) : (recomputeGrades s).eventSet .gradeChange
    = (s.eventSet .gradeChange || decide ((recomputeGrades s).da.pressure ≠ s.da.pressure)) := by
  have graded : (regrade s).eventSet .gradeChange = s.eventSet .gradeChange := by simp [State.eventSet]
  rw [recomputeGrades_da]
  simp only [recomputeGrades]
  split
  next same => simp [graded, same]
  next changed => simp [changed]

/-- A change of the pressure leaves a Member with a Status want (R164). -/
theorem recomputeGrades_held (h : (recomputeGrades s).da.pressure ≠ s.da.pressure) (hm : s.mc.state = .member) :
    (recomputeGrades s).re.status.held = true := by
  rw [recomputeGrades_da] at h
  simp only [recomputeGrades, if_neg h]
  exact raiseStatus_held _ (by simpa using hm)

theorem sampleEntry_txn (x : BitVec 12) (s : State) : (sampleEntry x s).pl.txn = s.pl.txn := by
  simp only [sampleEntry]
  split
  · simp [recomputeGrades_pl, charge_txn]
  · rfl

end Samples

end Sys2Proof.Machine

namespace Sys2Proof.Machine

/-! ## The clock's failure (R135, R149, R183) -/

section ClockFailure

variable {s : State}

/-- A transaction whose command is not yet taken is refused Busy-clock, and the rest of the PL stands. -/
theorem linkClockFailed_pl (s : State) : (linkClockFailed s).pl = { s.pl with
    txn := if s.pl.txn = some .opened ∨ s.pl.txn = some .arguments then some (.refused 0xB2) else s.pl.txn } := by
  simp only [linkClockFailed]
  split <;> rfl

theorem linkClockFailed_mayRaise (s : State) : mayRaise s (linkClockFailed s) := by
  refine ⟨?_, wantsOnly_of_eq (by simp) (by simp) (by simp)⟩
  simp [raisesOnly, State.eventSet, linkClockFailed_pl]

/-- The failure up to its missed sample: every request and the conversion aborted, ClockFault asserted and raised, and
the link told. -/
def clockDown (s : State) : State :=
  linkClockFailed (raiseEvent .clockFault (setClockFault true (s.withMu { s.mu with
    clock := .failed, startTime := none, reqBattery := false, reqQuiet := false, reqDrain := false
    inFlight := none })))

/-- A drain sample that was pending or in flight is a missed sample. -/
theorem clockFails_eq (s : State) : clockFails s
    = if (s.mu.reqDrain || s.mu.inFlight == some .drain) = true then missedSample (clockDown s) else clockDown s := rfl

theorem clockDown_mu (s : State) : (clockDown s).mu = { s.mu with
    clock := .failed, startTime := none, clockFault := true, reqBattery := false, reqQuiet := false
    reqDrain := false, inFlight := none } := by
  simp [clockDown, setClockFault_mu]

theorem clockDown_txn (s : State) : (clockDown s).pl.txn = if s.pl.txn = some .opened ∨ s.pl.txn = some .arguments
    then some (.refused 0xB2) else s.pl.txn := by
  simp [clockDown, linkClockFailed_pl, raiseEvent_pl]

theorem clockDown_eventSet (s : State) : (clockDown s).eventSet .clockFault = true :=
  (linkClockFailed_mayRaise _).eventSet (by simp)

theorem clockDown_mayRaise (s : State) : mayRaise s (clockDown s) := by
  have aborted : ∀ m, mayRaise s (s.withMu m) := fun m => mayRaise_of_eq rfl rfl rfl rfl
  exact (((aborted _).trans (setClockFault_mayRaise true _)).trans (raiseEvent_mayRaise .clockFault _)).trans
    (linkClockFailed_mayRaise _)

theorem clockDown_held (h : s.mu.clockFault = false) (hm : s.mc.state = .member) :
    (clockDown s).re.status.held = true := by
  simp only [clockDown, linkClockFailed_frame, raiseEvent_frame]
  exact setClockFault_held (by simp [h]) hm

theorem clockDown_changesOnly (s : State) : changesOnly [.mu, .re, .mc, .pl] s (clockDown s) := by
  simp [changesOnly_iff, clockDown]

theorem missedSample_mayRaise (s : State) : mayRaise s (missedSample s) := sampleEntry_mayRaise s _

/-- The missed sample of a failure repeats the code at position 0 (R143, R155), and a sample that was not under way
leaves the account alone. -/
theorem clockFails_da (s : State) :
    (s.mu.reqDrain = true ∨ s.mu.inFlight = some .drain → s.fixed = true →
      (clockFails s).da.window = s.da.window.getD 0 0 :: s.da.window.take 15)
    ∧ (s.mu.reqDrain = false → s.mu.inFlight ≠ some .drain → (clockFails s).da = s.da) := by
  have da : (clockDown s).da = s.da := clockDown_changesOnly s .da (by decide)
  refine ⟨fun lost hf => ?_, fun hd hi => ?_⟩
  · have fixed : (clockDown s).fixed = true := (fixed_congr s _ (by simp [clockDown])).trans hf
    rw [clockFails_eq, if_pos (by simpa using lost), missedSample, (sampleEntry_da fixed _).1, da]
  · rw [clockFails_eq, if_neg (by simp [hd, hi]), da]

/-- What the missed sample leaves as the failure made it. -/
theorem clockFails_of_clockDown (s : State) : (clockFails s).mu = (clockDown s).mu
    ∧ (clockFails s).pl.txn = (clockDown s).pl.txn ∧ mayRaise (clockDown s) (clockFails s) := by
  rw [clockFails_eq]
  split
  · exact ⟨by simp, sampleEntry_txn _ _, missedSample_mayRaise _⟩
  · exact ⟨rfl, rfl, mayRaise_refl _⟩

theorem exec_clockFailure {c : Instr} (hr : s.pins.rstN = true) (h : c = .clockSettleTimeout ∧ s.mu.clock = .settling
    ∨ c = .clockOutOfTolerance ∧ s.mu.clock = .running) : exec c s = .next (clockFails s) := by
  rcases h with ⟨rfl, hc⟩ | ⟨rfl, hc⟩
  · exact (gated_of_rstN s _ hr).trans (congrArg _ (if_pos hc))
  · exact (gated_of_rstN s _ hr).trans (congrArg _ (if_pos hc))

end ClockFailure

/-- Settles O40. -/
theorem clockFailureAbortsEverything : Obligations.ClockFailureAbortsEverything := by
  intro s c hr h
  obtain ⟨mu, txn, sampled⟩ := clockFails_of_clockDown s
  obtain ⟨lost, kept⟩ := clockFails_da s
  obtain ⟨want, notice⟩ := ((clockDown_mayRaise s).trans sampled).frames
  refine ⟨_, exec_clockFailure hr h, ?_⟩
  rw [mu, clockDown_mu, txn, clockDown_txn]
  exact ⟨rfl, rfl, rfl, rfl, rfl, rfl, sampled.eventSet (clockDown_eventSet s),
    fun hf hm => sampled.held (clockDown_held hf hm), rfl, lost, kept, by simp [changesOnly_iff], want, notice⟩

end Sys2Proof.Machine

namespace Sys2Proof.Machine

/-! ## The grades recomputed, and a sample's effect (R155 to R164) -/

section SampleEffect

variable {s : State}

/-- The grades recomputed are those of the state they leave, and p is the greatest of them and BatteryLow's (R164). -/
theorem recomputeGrades_current (s : State) :
    (recomputeGrades s).da.balanceGrade = (recomputeGrades s).balanceGradeNow
    ∧ (recomputeGrades s).da.rateGrade = (recomputeGrades s).rateGradeNow
    ∧ (recomputeGrades s).da.pressure = max (max (recomputeGrades s).balanceGradeNow (recomputeGrades s).rateGradeNow)
        (if s.mu.batteryLow then 7 else 0) := by
  obtain ⟨balance, rate, spent, filtered, -⟩ := recomputeGrades_grades s
  have settings : (recomputeGrades s).settings = s.settings := settings_congr _ _ (by simp) (by simp)
  rw [balance, rate, recomputeGrades_da, regrade_pressure, balanceGradeNow_congr settings spent,
    rateGradeNow_congr settings filtered (by simp)]
  exact ⟨rfl, rfl, rfl⟩

theorem recomputeGrades_exhausted (s : State) : (recomputeGrades s).da.exhausted = s.da.exhausted := by
  rw [recomputeGrades_da]
  simp [regrade]

/-- A sample entry up to its grades: window, charge and filter (R155 to R157, R159). -/
def sampleFiltered (x : BitVec 12) (s : State) : State :=
  applyFilter (charge (x.toNat * s.settings.chargeFactor) (enterWindow x s))

theorem sampleEntry_of_fixed (hf : s.fixed = true) (x : BitVec 12) :
    sampleEntry x s = recomputeGrades (sampleFiltered x s) := if_pos hf

theorem sampleFiltered_da (x : BitVec 12) (s : State) : (sampleFiltered x s).da = { s.da with
    window := x :: s.da.window.take 15
    spent := min (s.da.spent + x.toNat * s.settings.chargeFactor) Config.spentMax
    exhausted := s.da.exhausted
      || decide (s.settings.allowance ≤ min (s.da.spent + x.toNat * s.settings.chargeFactor) Config.spentMax)
    filtered := min (weightedSum s.settings (x :: s.da.window.take 15) / 2 ^ s.settings.shift) 65535
    saturated := decide (65535 < weightedSum s.settings (x :: s.da.window.take 15) / 2 ^ s.settings.shift) } := by
  have entered : (enterWindow x s).settings = s.settings := settings_congr _ _ (by simp) (by simp)
  have charged : ∀ n, (charge n (enterWindow x s)).settings = s.settings := fun n =>
    settings_congr _ _ (by simp) (by simp)
  have keeps : (enterWindow x s).da = { s.da with window := x :: s.da.window.take 15 } := rfl
  simp only [sampleFiltered, applyFilter, State.withDa_da, charged, charge_da, entered, keeps]

theorem sampleFiltered_eventSet (x : BitVec 12) (s : State) (e : Event) : (sampleFiltered x s).eventSet e
    = (s.eventSet e || (!s.da.exhausted
      && decide (s.settings.allowance ≤ min (s.da.spent + x.toNat * s.settings.chargeFactor) Config.spentMax)
      && e.bit == Event.accountExhausted.bit)) := by
  have entered : (enterWindow x s).settings = s.settings := settings_congr _ _ (by simp) (by simp)
  have filtered : ∀ u, (applyFilter u).eventSet e = u.eventSet e := fun _ => rfl
  have events : (enterWindow x s).eventSet e = s.eventSet e := rfl
  have spent : (enterWindow x s).da.spent = s.da.spent ∧ (enterWindow x s).da.exhausted = s.da.exhausted :=
    ⟨rfl, rfl⟩
  rw [sampleFiltered, filtered, charge_eventSet, entered, events, spent.1, spent.2]

/-- The effect of a sample entry on the account (R155 to R164). -/
theorem sampleEntry_account (hf : s.fixed = true) (x : BitVec 12) :
    (sampleEntry x s).da.window = x :: s.da.window.take 15
    ∧ (sampleEntry x s).da.spent = min (s.da.spent + x.toNat * s.settings.chargeFactor) Config.spentMax
    ∧ (sampleEntry x s).da.filtered
      = min (weightedSum s.settings (x :: s.da.window.take 15) / 2 ^ s.settings.shift) 65535
    ∧ (sampleEntry x s).da.saturated
      = decide (65535 < weightedSum s.settings (x :: s.da.window.take 15) / 2 ^ s.settings.shift)
    ∧ (sampleEntry x s).da.exhausted
      = (s.da.exhausted || decide (s.settings.allowance ≤ (sampleEntry x s).da.spent))
    ∧ (sampleEntry x s).da.phase = s.da.phase ∧ (sampleEntry x s).da.quietTicks = s.da.quietTicks := by
  rw [sampleEntry_of_fixed hf]
  obtain ⟨window, saturated, ticks⟩ := recomputeGrades_keeps (sampleFiltered x s)
  obtain ⟨-, -, spent, filtered, phase⟩ := recomputeGrades_grades (sampleFiltered x s)
  rw [window, saturated, ticks, spent, filtered, phase, recomputeGrades_exhausted, sampleFiltered_da]
  exact ⟨rfl, rfl, rfl, rfl, rfl, rfl, rfl⟩

/-- The grades after a sample entry are those of the state it leaves (R164). -/
theorem sampleEntry_grades (hf : s.fixed = true) (x : BitVec 12) :
    (sampleEntry x s).da.balanceGrade = (sampleEntry x s).balanceGradeNow
    ∧ (sampleEntry x s).da.rateGrade = (sampleEntry x s).rateGradeNow
    ∧ (sampleEntry x s).da.pressure = max (max (sampleEntry x s).balanceGradeNow (sampleEntry x s).rateGradeNow)
        (if s.mu.batteryLow then 7 else 0) := by
  have low : (sampleFiltered x s).mu = s.mu := by simp [sampleFiltered]
  rw [sampleEntry_of_fixed hf, ← low]
  exact recomputeGrades_current _

/-- The events of a sample entry: GradeChange with a change of the pressure, AccountExhausted with the charge that
exhausts the account (R161, R164). -/
theorem sampleEntry_events (hf : s.fixed = true) (x : BitVec 12) :
    (sampleEntry x s).eventSet .gradeChange
      = (s.eventSet .gradeChange || decide ((sampleEntry x s).da.pressure ≠ s.da.pressure))
    ∧ (sampleEntry x s).eventSet .accountExhausted = (s.eventSet .accountExhausted
      || (!s.da.exhausted && decide (s.settings.allowance ≤ (sampleEntry x s).da.spent)))
    ∧ ((sampleEntry x s).da.pressure ≠ s.da.pressure → s.mc.state = .member →
      (sampleEntry x s).re.status.held = true) := by
  have spent : (sampleEntry x s).da.spent = min (s.da.spent + x.toNat * s.settings.chargeFactor) Config.spentMax :=
    (sampleEntry_account hf x).2.1
  have before : (sampleFiltered x s).da.pressure = s.da.pressure := by rw [sampleFiltered_da]
  have member : (sampleFiltered x s).mc.state = s.mc.state := by simp [sampleFiltered]
  rw [spent, sampleEntry_of_fixed hf, recomputeGrades_gradeChange,
    recomputeGrades_eventSet _ (e := .accountExhausted) nofun, sampleFiltered_eventSet, sampleFiltered_eventSet, ← before, ← member]
  exact ⟨by simp [Event.bit], by simp, recomputeGrades_held⟩

end SampleEffect

end Sys2Proof.Machine

namespace Sys2Proof.Machine

/-! ## The selection after a conversion (R140, R145) -/

section NextConversion

variable {s : State}

theorem selectOrStop_inFlight (hc : s.mu.clock = .running) (hi : s.mu.inFlight = none) :
    (selectOrStop s).mu.inFlight = s.mu.highest := by
  rw [selectOrStop, stopIdleClock_mu, select_mu_of_idle hc hi]

/-- The next selection or the stop leaves the grades as they would be computed. -/
theorem selectOrStop_gradesNow (s : State) : (selectOrStop s).balanceGradeNow = s.balanceGradeNow
    ∧ (selectOrStop s).rateGradeNow = s.rateGradeNow := by
  have settings : (selectOrStop s).settings = s.settings := settings_congr _ _ (by simp) (by simp)
  exact ⟨balanceGradeNow_congr settings (by simp), rateGradeNow_congr settings (by simp) (by simp)⟩

theorem selectOrStop_eventSet (s : State) (e : Event) : (selectOrStop s).eventSet e = s.eventSet e := by
  simp [State.eventSet]

/-- The converter idle and the conversion counted: the state in which an outcome is delivered. -/
def conversionDone (s : State) : State :=
  s.withMu { s.mu with inFlight := none, conversions := s.mu.conversions + 1 }

theorem conversionDone_mayRaise (s : State) : mayRaise s (conversionDone s) := mayRaise_of_eq rfl rfl rfl rfl

/-- CONVERSION_END delivers a code that R138 allows the input, and selects next. -/
theorem exec_conversionEnd {u : User} (hr : s.pins.rstN = true) (h : s.mu.inFlight = some u) (v : Int) :
    ∃ x : BitVec 12, convertsTo u.channel.lsb v x
      ∧ exec (.conversionEnd v) s = .next (selectOrStop (deliver u x (conversionDone s))) := by
  obtain ⟨x, code, ends⟩ := conversionEnds_delivers s u h v
  exact ⟨x, code, (gated_of_rstN s (conversionEnds v) hr).trans (congrArg _ ends)⟩

end NextConversion

/-- Settles O42. -/
theorem drainSampleIsEntered : Obligations.DrainSampleIsEntered := by
  intro s v hr hf hd
  obtain ⟨x, code, ends⟩ := exec_conversionEnd hr hd v
  obtain ⟨u, hu⟩ : ∃ u, u = conversionDone s := ⟨_, rfl⟩
  have fixed : u.fixed = true := by rw [hu]; exact hf
  have settings : u.settings = s.settings := by rw [hu]; rfl
  have da : u.da = s.da := by rw [hu]; rfl
  have events : ∀ e, u.eventSet e = s.eventSet e := fun e => by rw [hu]; rfl
  have low : u.mu.batteryLow = s.mu.batteryLow := by rw [hu]; rfl
  have member : u.mc = s.mc := by rw [hu]; rfl
  obtain ⟨window, spent, filtered, saturated, exhausted, phase, ticks⟩ := sampleEntry_account fixed x
  obtain ⟨balance, rate, pressure⟩ := sampleEntry_grades fixed x
  obtain ⟨changed, exhausts, held⟩ := sampleEntry_events fixed x
  obtain ⟨balanceNow, rateNow⟩ := selectOrStop_gradesNow (sampleEntry x u)
  have raised : mayRaise s (selectOrStop (sampleEntry x u)) := by
    rw [hu]
    exact ((conversionDone_mayRaise s).trans (sampleEntry_mayRaise _ x)).trans (selectOrStop_mayRaise _)
  obtain ⟨want, notice⟩ := raised.frames
  simp only [settings, da, low] at window spent filtered saturated exhausted phase ticks pressure
  simp only [settings, da, events, member] at changed exhausts held
  rw [← hu, deliver] at ends
  refine ⟨x, code, _, ends, ?_⟩
  rw [selectOrStop_eventSet, selectOrStop_eventSet, balanceNow, rateNow]
  simp only [selectOrStop_frame]
  refine ⟨window, spent, filtered, saturated, balance, rate, pressure, exhausted, changed, exhausts, held,
    fun hc => ?_, phase, ticks, by simp [changesOnly_iff, hu, conversionDone], want, notice⟩
  rw [selectOrStop_inFlight (by simpa [hu, conversionDone] using hc) (by simp [hu, conversionDone])]
  simp [hu, conversionDone, Mu.highest]

end Sys2Proof.Machine

namespace Sys2Proof.Machine

/-! ## The outcome of a battery check (R144, R147, R164) -/

section BatteryCheck

variable {s : State}

/-- BatteryLow takes a value with the deficit of its check, before its event and its grades. -/
def batteryStored (low : Bool) (deficit : Option Nat) (s : State) : State :=
  s.withMu { s.mu with batteryLow := low, deficit := deficit }

/-- The four cases of a battery check: BatteryLow set anew, set again, cleared, and clear again (R144, R147). -/
theorem batteryOutcome_eq (n : Nat) (s : State) : batteryOutcome n s =
    if n < s.settings.batteryLimit then
      if s.mu.batteryLow then batteryStored true (some (s.settings.batteryLimit - n)) s
      else recomputeGrades (raiseEvent .batteryLow (batteryStored true (some (s.settings.batteryLimit - n)) s))
    else if s.mu.batteryLow then recomputeGrades (batteryStored false s.mu.deficit s)
    else s := rfl

theorem batteryStored_mayRaise (b : Bool) (d : Option Nat) (s : State) : mayRaise s (batteryStored b d s) :=
  mayRaise_of_eq rfl rfl rfl rfl

theorem batteryOutcome_mayRaise (n : Nat) (s : State) : mayRaise s (batteryOutcome n s) := by
  have stored := batteryStored_mayRaise true (some (s.settings.batteryLimit - n)) s
  have cleared := batteryStored_mayRaise false s.mu.deficit s
  rw [batteryOutcome_eq]
  split
  · split
    · exact stored
    · exact (stored.trans (raiseEvent_mayRaise _ _)).trans (recomputeGrades_mayRaise _)
  · split
    · exact cleared.trans (recomputeGrades_mayRaise _)
    · exact mayRaise_refl s

/-- A recomputation with BatteryLow set makes the pressure grade 7 (R164). -/
theorem recomputeGrades_low (h : s.mu.batteryLow = true) : (recomputeGrades s).da.pressure = 7 := by
  rw [recomputeGrades_da, regrade_pressure, h]
  exact max_eq_right (Fin.le_last _)

/-- The outcome of a battery check whose code is below the limit. -/
theorem batteryOutcome_below {n : Nat} (h : n < s.settings.batteryLimit) :
    (batteryOutcome n s).mu = { s.mu with batteryLow := true, deficit := some (s.settings.batteryLimit - n) }
    ∧ (batteryOutcome n s).eventSet .batteryLow = (s.eventSet .batteryLow || !s.mu.batteryLow)
    ∧ (s.mu.batteryLow = false → (batteryOutcome n s).da.pressure = 7)
    ∧ (s.mu.batteryLow = true → (batteryOutcome n s).da = s.da)
    ∧ (batteryOutcome n s).da.spent = s.da.spent := by
  obtain ⟨u, hu⟩ : ∃ u, u = batteryStored true (some (s.settings.batteryLimit - n)) s := ⟨_, rfl⟩
  have events : u.eventSet .batteryLow = s.eventSet .batteryLow := by rw [hu]; rfl
  rw [batteryOutcome_eq, if_pos h, ← hu]
  cases low : s.mu.batteryLow with
  | true =>
    rw [if_pos rfl]
    exact ⟨by rw [hu]; rfl, by simp [events], nofun, fun _ => by rw [hu]; rfl, by rw [hu]; rfl⟩
  | false =>
    rw [if_neg nofun]
    refine ⟨by simp [hu, batteryStored], ?_, fun _ => recomputeGrades_low (by simp [hu, batteryStored]), nofun, ?_⟩
    · simp [recomputeGrades_eventSet _ (e := .batteryLow) nofun, events]
    · simp [recomputeGrades_grades, hu, batteryStored]

/-- The outcome of any other battery check. -/
theorem batteryOutcome_above {n : Nat} (h : ¬ n < s.settings.batteryLimit) :
    (batteryOutcome n s).mu = { s.mu with batteryLow := false }
    ∧ (batteryOutcome n s).eventSet .batteryLow = s.eventSet .batteryLow
    ∧ (s.mu.batteryLow = false → (batteryOutcome n s).da = s.da)
    ∧ (batteryOutcome n s).da.spent = s.da.spent := by
  rw [batteryOutcome_eq, if_neg h]
  cases low : s.mu.batteryLow with
  | true =>
    rw [if_pos rfl]
    refine ⟨by simp [batteryStored], ?_, nofun, by simp [recomputeGrades_grades, batteryStored]⟩
    exact recomputeGrades_eventSet (batteryStored false s.mu.deficit s) (e := .batteryLow) nofun
  | false =>
    rw [if_neg nofun]
    exact ⟨by rw [← low], rfl, fun _ => rfl, rfl⟩

/-- The outcome of a battery check with its code. -/
theorem batteryOutcome_spec (n : Nat) (s : State) :
    (batteryOutcome n s).mu = { s.mu with
      batteryLow := decide (n < s.settings.batteryLimit)
      deficit := if n < s.settings.batteryLimit then some (s.settings.batteryLimit - n) else s.mu.deficit }
    ∧ (batteryOutcome n s).eventSet .batteryLow
      = (s.eventSet .batteryLow || (!s.mu.batteryLow && decide (n < s.settings.batteryLimit)))
    ∧ (s.mu.batteryLow = false → n < s.settings.batteryLimit → (batteryOutcome n s).da.pressure = 7)
    ∧ (s.mu.batteryLow = decide (n < s.settings.batteryLimit) → (batteryOutcome n s).da = s.da)
    ∧ (batteryOutcome n s).da.spent = s.da.spent := by
  by_cases below : n < s.settings.batteryLimit
  · obtain ⟨mu, event, pressure, da, spent⟩ := batteryOutcome_below below
    simp only [below, decide_true, if_true, Bool.and_true]
    exact ⟨mu, event, fun low _ => pressure low, da, spent⟩
  · obtain ⟨mu, event, da, spent⟩ := batteryOutcome_above below
    simp only [below, decide_false, if_false, Bool.and_false, Bool.or_false]
    exact ⟨mu, event, nofun, da, spent⟩

end BatteryCheck

/-- Settles O43. -/
theorem batteryCheckSetsBatteryLow : Obligations.BatteryCheckSetsBatteryLow := by
  intro s v hr hb
  obtain ⟨x, code, ends⟩ := exec_conversionEnd hr hb v
  obtain ⟨u, hu⟩ : ∃ u, u = conversionDone s := ⟨_, rfl⟩
  have settings : u.settings = s.settings := by rw [hu]; rfl
  have event : u.eventSet .batteryLow = s.eventSet .batteryLow := by rw [hu]; rfl
  obtain ⟨mu, raises, pressure, same, spent⟩ := batteryOutcome_spec x.toNat u
  obtain ⟨-, record, deficit, low⟩ := selectOrStop_keeps (batteryOutcome x.toNat u)
  have raised : mayRaise s (selectOrStop (batteryOutcome x.toNat u)) := by
    rw [hu]
    exact ((conversionDone_mayRaise s).trans (batteryOutcome_mayRaise _ _)).trans (selectOrStop_mayRaise _)
  obtain ⟨want, notice⟩ := raised.frames
  rw [← hu, deliver] at ends
  refine ⟨x, code, _, ends, ?_⟩
  have account : (selectOrStop (batteryOutcome x.toNat u)).da = (batteryOutcome x.toNat u).da := by simp
  simp only [settings, event] at mu raises pressure same
  rw [selectOrStop_eventSet, record, deficit, low, mu, account]
  subst hu
  exact ⟨rfl, rfl, raises, pressure, same, rfl, spent, by simp [changesOnly_iff, conversionDone], want, notice⟩

end Sys2Proof.Machine

namespace Sys2Proof.Machine

/-! ## The edges of LCS_N (R133, R134, R136, R181, R182, R194) -/

section Select

variable {s : State}

theorem linkAssert_asserted (h : s.pins.lcs = true) : linkAssert s = s := if_pos h

theorem linkAssert_dead (h : s.pins.lcs = false) (ha : s.mpc.raila = false) :
    linkAssert s = s.withPins { s.pins with lcs := true } := by
  simp [linkAssert, h, ha]

/-- A live assertion opens a transaction and starts a stopped or failed clock. -/
theorem linkAssert_live (h : s.pins.lcs = false) (hr : s.pins.rstN = true) (ha : s.mpc.raila = true) :
    (linkAssert s).pl = { s.pl with txn := some .opened } ∧ (linkAssert s).pins = { s.pins with lcs := true }
    ∧ (linkAssert s).mu = (if s.mu.clock = .stopped ∨ s.mu.clock = .failed
        then { s.mu with clock := .settling, startTime := some s.time } else s.mu) := by
  obtain ⟨u, hu⟩ : ∃ u, u = setTxn (some .opened) (s.withPins { s.pins with lcs := true }) := ⟨_, rfl⟩
  have live : linkAssert s = if s.mu.clock = .stopped ∨ s.mu.clock = .failed then startAttempt u else u := by
    rw [hu]
    simp [linkAssert, h, hr, ha]
  rw [live, hu]
  split <;> exact ⟨rfl, rfl, rfl⟩

/-- LSO shows 0 from the assertion to the command byte (R181). -/
theorem lso_opened (hl : s.pins.lcs = true) (ha : s.mpc.raila = true) (ht : s.pl.txn = some .opened) (k : Nat) :
    s.lso k = some 0 := by
  simp [State.lso, hl, ha, ht, Txn.lsoByte]

theorem linkRelease_released (n : Nat) (h : s.pins.lcs = false) : linkRelease n s = s := if_neg (by simp [h])

theorem linkRelease_dead (n : Nat) (h : s.pins.lcs = true) (ha : s.mpc.raila = false) :
    linkRelease n s = s.withPins { s.pins with lcs := false } := by
  simp [linkRelease, h, ha]

theorem readOut_iff (t : Option Txn) (n : Nat) :
    Txn.readOut t n = true ↔ ∃ a, t = some (.taken a) ∧ a.length ≤ n := by
  simp only [Txn.readOut]
  split <;> simp_all

/-- A deassertion with RAILA on: the flags marked clearing are cleared when the answer was read out, no mark and no
transaction is left, and the link hold is a demand that starts a stopped clock. -/
theorem linkRelease_live (n : Nat) (h : s.pins.lcs = true) (hr : s.pins.rstN = true) (ha : s.mpc.raila = true) :
    (linkRelease n s).pl = { s.pl with
      events := if Txn.readOut s.pl.txn n then s.pl.events &&& ~~~s.pl.clearing else s.pl.events
      clearing := 0, txn := none }
    ∧ (linkRelease n s).pins = { s.pins with lcs := false } ∧ (linkRelease n s).mu.linkHold = 64
    ∧ (linkRelease n s).mu.clock = (if s.mu.clock = .stopped then .settling else s.mu.clock) := by
  obtain ⟨u, hu⟩ : ∃ u, u = ((s.withPins { s.pins with lcs := false }).withPl { s.pl with
      events := if Txn.readOut s.pl.txn n then s.pl.events &&& ~~~s.pl.clearing else s.pl.events
      clearing := 0, txn := none }).withMu { s.mu with linkHold := Config.linkHoldPeriods } := ⟨_, rfl⟩
  have live : linkRelease n s = startOnDemand u := by
    rw [hu]
    simp [linkRelease, h, hr, ha]
  have demand : u.demand = true := by simp [State.demand, hu, Config.linkHoldPeriods]
  have mu : (startOnDemand u).mu.linkHold = 64
      ∧ (startOnDemand u).mu.clock = (if s.mu.clock = .stopped then .settling else s.mu.clock) := by
    have clock : u.mu.clock = s.mu.clock := by simp [hu]
    have hold : u.mu.linkHold = 64 := by rw [hu]; rfl
    simp only [startOnDemand, demand, clock, and_true]
    split
    · exact ⟨hold, rfl⟩
    · exact ⟨hold, clock⟩
  rw [live]
  exact ⟨by simp [hu], by simp [hu], mu⟩

end Select

/-! ## LSO and LSI (R181) -/

section Bytes

variable {s : State}

/-- LSO is at high impedance with RAILA off and with LCS_N deasserted. -/
theorem lso_dead (h : s.mpc.raila = false ∨ s.pins.lcs = false) (k : Nat) : s.lso k = none := by
  rcases h with h | h <;> simp [State.lso, h]

/-- Bits sent most significant first are read as the number they were taken from: the number read so far stands above
the bits still to come. -/
theorem natOfBits_bitsOfNat (w n : Nat) : natOfBits (bitsOfNat w n) = n % 2 ^ w := by
  have shifted : ∀ w a, (bitsOfNat w n).foldl (fun m b => 2 * m + b.toNat) a = a * 2 ^ w + n % 2 ^ w := by
    intro w
    induction w with
    | zero => simp [bitsOfNat, Nat.mod_one]
    | succ w ih =>
      intro a
      have top : n % 2 ^ (w + 1) = 2 ^ w * (n.testBit w).toNat + n % 2 ^ w := by
        rw [Nat.mod_pow_succ, Nat.toNat_testBit, Nat.add_comm]
      rw [bitsOfNat, List.foldl_cons, ih, top]
      ring
  simpa [natOfBits] using shifted w 0

/-- The bits of a byte, most significant first, are read back as the byte. -/
theorem lsiByte_bits (b : Byte) : lsiByte (bitsOfNat 8 b.toNat) = b := by
  rw [lsiByte, natOfBits_bitsOfNat, Nat.mod_eq_of_lt b.isLt, BitVec.ofNat_toNat, BitVec.setWidth_eq]

end Bytes

/-- Settles O48: each edge of LCS_N in its three cases, LSO by its gates, and a byte bit by bit. -/
theorem selectAndDeselect : Obligations.SelectAndDeselect := by
  refine ⟨fun s => ⟨fun h => ?_, fun h ha => ?_, fun h hr ha => ?_⟩,
    fun s n => ⟨fun h => ?_, fun h ha => ?_, fun h hr ha => ?_⟩,
    fun s k => ⟨fun h => lso_dead h k, fun i => rfl⟩, lsiByte_bits⟩
  · exact congrArg _ (linkAssert_asserted h)
  · exact congrArg _ (linkAssert_dead h ha)
  · obtain ⟨pl, pins, mu⟩ := linkAssert_live h hr ha
    exact ⟨_, rfl, pl, pins, lso_opened (by rw [pins]) (by simpa using ha) (by rw [pl]), mu,
      by simp [changesOnly_iff]⟩
  · exact congrArg _ (linkRelease_released n h)
  · exact congrArg _ (linkRelease_dead n h ha)
  · obtain ⟨pl, pins, hold, clock⟩ := linkRelease_live n h hr ha
    refine ⟨_, rfl, ?_⟩
    rw [pl]
    refine ⟨rfl, rfl, hold, pins, clock, fun read => if_pos ((readOut_iff _ n).2 read),
      fun short => if_neg fun read => ?_, rfl, rfl, rfl, by simp [changesOnly_iff]⟩
    obtain ⟨a, taken, long⟩ := (readOut_iff _ n).1 read
    exact absurd (short a taken) (by omega)

end Sys2Proof.Machine

namespace Sys2Proof.Machine

/-! ## The grades of the drain account (R162, R163) -/

section Highest

variable {p : Grade → Bool} {g : Grade}

/-- The grade found meets the condition, and the grades above it stand before it in the falling order of the search,
so that they do not. -/
theorem highestGrade_spec (p : Grade → Bool) : (highestGrade p ≠ 0 → p (highestGrade p) = true)
    ∧ ∀ g, highestGrade p < g → p g = false := by
  have listed : ∀ g, highestGrade p < g → g ∈ levels.reverse := fun g above =>
    List.mem_reverse.2 (mem_levels.2 (Fin.pos_iff_ne_zero.1 ((Fin.zero_le _).trans_lt above)))
  have falling : levels.reverse.Pairwise (· > ·) := by decide
  cases found : levels.reverse.find? p with
  | none =>
    have none_found : highestGrade p = 0 := by rw [highestGrade, found]; rfl
    exact ⟨fun nonzero => absurd none_found nonzero, fun g above =>
      Bool.eq_false_of_not_eq_true (List.find?_eq_none.1 found g (listed g above))⟩
  | some top =>
    have is_top : highestGrade p = top := by rw [highestGrade, found]; rfl
    obtain ⟨meets, before, after, split, fail⟩ := List.find?_eq_some_iff_append.1 found
    rw [is_top]
    refine ⟨fun _ => meets, fun g above => ?_⟩
    have place := listed g (is_top ▸ above)
    rw [split] at place falling
    rcases List.mem_append.1 place with earlier | later
    · simpa using fail g earlier
    · rcases List.mem_cons.1 later with same | below
      · exact absurd above (same ▸ lt_irrefl _)
      · exact absurd above (lt_asymm (List.rel_of_pairwise_cons (List.pairwise_append.1 falling).2.1 below))

theorem highestGrade_meets (nonzero : highestGrade p ≠ 0) : p (highestGrade p) = true :=
  (highestGrade_spec p).1 nonzero

theorem eq_false_of_highestGrade_lt (above : highestGrade p < g) : p g = false := (highestGrade_spec p).2 g above

theorem grade_ne_zero_of_le {h : Grade} (one : 1 ≤ g) (le : g ≤ h) : h ≠ 0 :=
  Fin.pos_iff_ne_zero.1 (Fin.zero_lt_one.trans_le (one.trans le))

/-- A condition that passes down from each grade to the grades below it holds for every grade up to the one found. -/
theorem meets_of_le_highestGrade (down : ∀ g h : Grade, 1 ≤ g → g ≤ h → p h = true → p g = true) (one : 1 ≤ g)
    (upTo : g ≤ highestGrade p) : p g = true :=
  down g _ one upTo (highestGrade_meets (grade_ne_zero_of_le one upTo))

theorem highestGrade_eq_zero (none_meets : ∀ g, p g = false) : highestGrade p = 0 := by
  by_contra nonzero
  exact absurd (highestGrade_meets nonzero) (by simp [none_meets])

end Highest

section Grades

variable {s : State}

/-- Every threshold t_g is at most 255, below the 256 of the comparison, so a full account with a positive allowance
meets none (R162). -/
theorem balanceGradeNow_full (positive : 0 < s.settings.allowance) (full : s.balance = s.settings.allowance) :
    s.balanceGradeNow = 0 := by
  refine highestGrade_eq_zero fun g => decide_eq_false ?_
  have threshold : s.settings.balanceThreshold g < 256 := BitVec.isLt _
  rw [full, not_le]
  exact Nat.mul_lt_mul_of_pos_left threshold positive

theorem rateGradeNow_off (off : s.mpc.raila = false) : s.rateGradeNow = 0 := by
  rw [State.rateGradeNow, off]
  rfl

theorem rateGradeNow_on (on : s.mpc.raila = true) :
    s.rateGradeNow = highestGrade fun g => decide (s.settings.rateThreshold g ≤ s.da.filtered) := by
  rw [State.rateGradeNow, on]
  rfl

/-- A rate grade other than 0 is found with RAILA on, as the highest grade whose threshold f meets (R163). -/
theorem rateGradeNow_of_ne_zero (nonzero : s.rateGradeNow ≠ 0) :
    s.rateGradeNow = highestGrade fun g => decide (s.settings.rateThreshold g ≤ s.da.filtered) :=
  rateGradeNow_on (Bool.eq_true_of_not_eq_false fun off => nonzero (rateGradeNow_off off))

/-- A threshold r_g has sixteen bits, so the filter's largest value meets it (R163). -/
theorem rateThreshold_le (s : State) (g : Grade) : s.settings.rateThreshold g ≤ 65535 :=
  Nat.le_of_lt_succ (BitVec.isLt _)

end Grades

/-- Settles O45: both grades are the highest grade that meets a condition, which falling balance thresholds and rising
rate thresholds pass down; the bounds of the thresholds' fields give the full account and the saturated filter. -/
theorem gradesAreTheLargestThatHold : Obligations.GradesAreTheLargestThatHold := by
  refine ⟨fun s => ⟨fun nonzero => ?_, fun g above => ?_, fun falling g one upTo => ?_, balanceGradeNow_full,
      fun g _ zero => ?_⟩,
    fun s => ⟨rateGradeNow_off, fun nonzero => ?_, fun on g above => ?_, fun rising g one upTo => ?_,
      fun saturated g => saturated ▸ rateThreshold_le s g⟩⟩
  · exact of_decide_eq_true (highestGrade_meets nonzero)
  · exact of_decide_eq_false (eq_false_of_highestGrade_lt above)
  · refine of_decide_eq_true (meets_of_le_highestGrade (fun g h one le meets => ?_) one upTo)
    exact decide_eq_true ((of_decide_eq_true meets).trans (Nat.mul_le_mul_left _ (falling g h one le)))
  · rw [zero, Nat.mul_zero]
    omega
  · have found := rateGradeNow_of_ne_zero nonzero
    rw [found] at nonzero ⊢
    exact of_decide_eq_true (highestGrade_meets nonzero)
  · rw [rateGradeNow_on on] at above
    exact of_decide_eq_false (eq_false_of_highestGrade_lt above)
  · rw [rateGradeNow_of_ne_zero (grade_ne_zero_of_le one upTo)] at upTo
    refine of_decide_eq_true (meets_of_le_highestGrade (fun g h one le meets => ?_) one upTo)
    exact decide_eq_true ((rising g h one le).trans (of_decide_eq_true meets))

end Sys2Proof.Machine

namespace Sys2Proof.Machine

/-! ## Census timers (R170, R172, R176) -/

section CensusTimers

variable {s : State}

/-- Another census is active by an exclusion record that names another requester (R171). -/
theorem otherCensus_iff : s.otherCensus = true ↔ ∃ e, s.cu.exclusion = some e ∧ e.requester ≠ s.mc.number := by
  simp only [State.otherCensus]
  split <;> simp [*]

theorem otherCensus_eq_false_iff :
    s.otherCensus = false ↔ ∀ e, s.cu.exclusion = some e → e.requester = s.mc.number := by
  simp [← Bool.not_eq_true, otherCensus_iff]

theorem otherCensus_of_none (h : s.cu.exclusion = none) : s.otherCensus = false := by simp [State.otherCensus, h]

theorem otherCensus_withCu {c : Cu} (h : c.exclusion = s.cu.exclusion) :
    (s.withCu c).otherCensus = s.otherCensus := by
  rw [Bool.eq_iff_iff, otherCensus_iff, otherCensus_iff, State.withCu_cu, State.withCu_mc, h]

theorem censusRun_cu (s : State) :
    (censusRun s).cu = { s.cu with state := .running, reference := onTable s.ev.table s.cu.level } := by
  simp [censusRun]

theorem censusRun_held (hm : s.mc.state = .member) : (censusRun s).re.census.held = true :=
  raiseCensus_held (by simpa using hm)

theorem censusRecheck_of_free (hw : s.cu.state = .waiting) (ho : s.otherCensus = false) (hz : s.cu.holdOff = 0) :
    censusRecheck s = censusRun s := if_pos ⟨hw, ho, hz⟩

/-- A recheck keeps the hold-off, the exclusion record, the list and the Disturbed flag, whether the census enters
Running or not. -/
theorem censusRecheck_keeps (s : State) : (censusRecheck s).cu.holdOff = s.cu.holdOff
    ∧ (censusRecheck s).cu.exclusion = s.cu.exclusion ∧ (censusRecheck s).cu.list = s.cu.list
    ∧ (censusRecheck s).cu.disturbed = s.cu.disturbed := by
  simp only [censusRecheck]
  split
  · simp [censusRun_cu]
  · simp

theorem censusRecheck_state (s : State) : (censusRecheck s).cu.state
    = if s.cu.state = .waiting ∧ s.otherCensus = false ∧ s.cu.holdOff = 0 then .running else s.cu.state := by
  simp only [censusRecheck]
  split
  · simp [censusRun_cu]
  · rfl

/-- A census that a recheck lets run has its reference from the table and, at a Member, a Census want (R171, R172). -/
theorem censusRecheck_runs (hw : s.cu.state = .waiting) (ho : s.otherCensus = false) (hz : s.cu.holdOff = 0) :
    (censusRecheck s).cu.reference = onTable s.ev.table s.cu.level
      ∧ (s.mc.state = .member → (censusRecheck s).re.census.held = true) := by
  rw [censusRecheck_of_free hw ho hz]
  exact ⟨by rw [censusRun_cu], censusRun_held⟩

/-- The unit once the exclusion record `e` is dropped: a Running census of this station that it named is Disturbed
(R170, R176). -/
def Cu.agedOut (c : Cu) (number : Station) (e : Exclusion) : Cu :=
  { c with
    exclusion := none
    disturbed := c.disturbed || decide (c.state = .running ∧ e.requester = number ∧ e.level = c.level) }

theorem exclusionRunsOut_of_some {e : Exclusion} (he : s.cu.exclusion = some e) :
    exclusionRunsOut s = censusRecheck (s.withCu (s.cu.agedOut s.mc.number e)) := by
  simp only [exclusionRunsOut, he, Cu.agedOut, Bool.decide_and, Bool.and_assoc]
  rfl

theorem holdOffRunsOut_of_pos (h : 0 < s.cu.holdOff) :
    holdOffRunsOut s = censusRecheck (s.withCu { s.cu with holdOff := 0 }) := if_pos h

theorem holdOffRunsOut_of_zero (h : s.cu.holdOff = 0) : holdOffRunsOut s = s := if_neg (by omega)

theorem exec_exclusionAgeOut (hr : s.pins.rstN = true) : exec .exclusionAgeOut s = .next (exclusionRunsOut s) :=
  gated_of_rstN s exclusionRunsOut hr

theorem exec_holdOffEnd (hr : s.pins.rstN = true) : exec .holdOffEnd s = .next (holdOffRunsOut s) :=
  gated_of_rstN s holdOffRunsOut hr

end CensusTimers

/-- Settles O46: each timer ends in a recheck, of a state with no exclusion record and of one with no hold-off, so that
the other of the two conditions decides. -/
theorem censusTimersLetAWaitingCensusRun : Obligations.CensusTimersLetAWaitingCensusRun := by
  intro s hr
  refine ⟨fun present => ?_, fun counting => ?_, fun zero => ?_⟩
  · obtain ⟨e, he⟩ := Option.ne_none_iff_exists'.1 present
    obtain ⟨holdOff, exclusion, list, disturbed⟩ := censusRecheck_keeps (s.withCu (s.cu.agedOut s.mc.number e))
    refine ⟨_, exec_exclusionAgeOut hr, ?_⟩
    rw [exclusionRunsOut_of_some he]
    refine ⟨exclusion, holdOff, list, fun e' he' => ?_, ?_,
      fun waiting zero => censusRecheck_runs waiting (otherCensus_of_none rfl) zero, by simp [changesOnly_iff]⟩
    · obtain rfl : e = e' := Option.some.inj (he.symm.trans he')
      exact disturbed
    · simp [censusRecheck_state, otherCensus_of_none, Cu.agedOut]
  · obtain ⟨holdOff, exclusion, list, disturbed⟩ := censusRecheck_keeps (s.withCu { s.cu with holdOff := 0 })
    refine ⟨_, exec_holdOffEnd hr, ?_⟩
    rw [holdOffRunsOut_of_pos counting]
    refine ⟨holdOff, exclusion, list, disturbed, ?_, fun waiting alone => censusRecheck_runs waiting alone rfl,
      by simp [changesOnly_iff]⟩
    simp [censusRecheck_state, otherCensus_withCu]
  · rw [exec_holdOffEnd hr, holdOffRunsOut_of_zero zero]

end Sys2Proof.Machine

namespace Sys2Proof.Machine

/-! ## START_CENSUS and ABANDON_CENSUS (R171, R172, R179) -/

section CensusCommands

variable {s : State} {l : Byte}

theorem startCensusAnswer_outOfRange (h : l = 0 ∨ 7 < l.toNat) : startCensusAnswer l s = ⟨s, 0xD4, []⟩ :=
  if_pos (by simpa using h)

theorem not_outOfRange (hz : l ≠ 0) (hl : l.toNat ≤ 7) : ¬(l == 0 || decide (7 < l.toNat)) = true := by
  rw [Bool.or_eq_true, beq_iff_eq, decide_eq_true_iff]
  exact not_or.2 ⟨hz, hl.not_gt⟩

theorem startCensusAnswer_wrongState (hz : l ≠ 0) (hl : l.toNat ≤ 7) (h : s.mc.state ≠ .member
    ∨ s.cu.state = .running ∨ s.cu.state = .waiting ∨ s.cu.closeOwed = true) :
    startCensusAnswer l s = ⟨s, 0xC3, []⟩ := by
  rw [startCensusAnswer, if_neg (not_outOfRange hz hl)]
  by_cases hm : s.mc.state = .member
  · exact (if_neg (not_not_intro hm)).trans (if_pos (h.resolve_left (not_not_intro hm)))
  · exact if_pos hm

theorem startCensusAnswer_begins (hz : l ≠ 0) (hl : l.toNat ≤ 7) (hm : s.mc.state = .member)
    (hr : s.cu.state ≠ .running) (hw : s.cu.state ≠ .waiting) (hc : s.cu.closeOwed = false) :
    startCensusAnswer l s = done (censusBegin (Fin.ofNat 8 l.toNat) s) := by
  rw [startCensusAnswer, if_neg (not_outOfRange hz hl), if_neg (not_not_intro hm), if_neg (by simp [hr, hw, hc])]

/-- The requester record of a census that begins: no stations, no marks, and the level of the command (R171). -/
def Cu.begun (c : Cu) (level : Level) : Cu :=
  { c with list := [], disturbed := false, truncated := false, level := level }

theorem censusBegin_waits (k : Level) (h : s.otherCensus = true ∨ 0 < s.cu.holdOff) :
    censusBegin k s = withdrawCensus (s.withCu { s.cu.begun k with state := .waiting }) :=
  if_pos (by simpa [otherCensus_withCu] using h)

theorem censusBegin_runs (k : Level) (ho : s.otherCensus = false) (hz : s.cu.holdOff = 0) :
    censusBegin k s = censusRun (s.withCu (s.cu.begun k)) :=
  if_neg (by simpa [otherCensus_withCu, hz] using ho)

/-- A census that begins, Waiting or Running, has the record of one that begins. -/
theorem censusBegin_begun (k : Level) (s : State) : (censusBegin k s).cu.list = []
    ∧ (censusBegin k s).cu.disturbed = false ∧ (censusBegin k s).cu.truncated = false
    ∧ (censusBegin k s).cu.level = k ∧ (censusBegin k s).cu.exclusion = s.cu.exclusion
    ∧ (censusBegin k s).cu.holdOff = s.cu.holdOff := by
  by_cases h : s.otherCensus = true ∨ 0 < s.cu.holdOff
  · rw [censusBegin_waits k h]
    exact ⟨rfl, rfl, rfl, rfl, rfl, rfl⟩
  · obtain ⟨ho, hz⟩ := not_or.1 h
    rw [censusBegin_runs k (Bool.eq_false_of_not_eq_true ho) (by omega), censusRun_cu]
    exact ⟨rfl, rfl, rfl, rfl, rfl, rfl⟩

/-- The level of the command in the table, by its number. -/
theorem onTable_ofNat (t : List Entry) (hl : l.toNat ≤ 7) :
    onTable t (Fin.ofNat 8 l.toNat) = t.any fun x => x.level.val == l.toNat := by
  have level (x : Entry) : (x.level == Fin.ofNat 8 l.toNat) = (x.level.val == l.toNat) := by
    rw [Bool.eq_iff_iff, beq_iff_eq, beq_iff_eq, Fin.ext_iff, Fin.val_ofNat, Nat.mod_eq_of_lt (by omega)]
  simp only [onTable, level]

/-- An abandonment that is answered Done touches the census unit alone (R179). -/
theorem exec_abandonCensus {c : Cu} (hs : s.linkReady) (owner : abandonAnswer s = done (s.withCu c)) :
    exec .abandonCensus s = .next ((s.withCu c).withAnswer 0xA1 []) := by
  have taken : exec .abandonCensus s = linkCommand abandonAnswer s := rfl
  rw [taken, linkCommand_answers hs (by rw [owner]; exact linkReady_raila s hs), owner]
  rfl

end CensusCommands

/-- Settles O47: the refusals in the order of R171, then the census by its two conditions; and the abandonment by the
state of the census. -/
theorem censusCommandsAnswer : Obligations.CensusCommandsAnswer := by
  refine ⟨fun s l hs => ⟨fun h => linkCommand_unmoved hs (startCensusAnswer_outOfRange h),
    fun hz hl h => linkCommand_unmoved hs (startCensusAnswer_wrongState hz hl h), fun hz hl hm hr hw hc => ?_⟩,
    fun s hs => ⟨fun hr => ?_, fun hw => ?_, fun hr hw => linkCommand_unmoved hs ?_⟩⟩
  · have owner := startCensusAnswer_begins hz hl hm hr hw hc
    have taken := linkCommand_answers (owner := startCensusAnswer l) hs
      (by rw [owner, done]; simpa using linkReady_raila s hs)
    obtain ⟨list, disturbed, truncated, level, exclusion, holdOff⟩ :=
      censusBegin_begun (Fin.ofNat 8 l.toNat) s
    refine ⟨_, taken, ?_⟩
    simp only [owner, done, withAnswer_frame]
    refine ⟨by simp [State.withAnswer, statusDone], list, disturbed, truncated, ?_, exclusion, holdOff, fun h => ?_,
      fun alone zero => ?_, by simp [changesOnly_iff]⟩
    · rw [level, Fin.val_ofNat, Nat.mod_eq_of_lt (by omega)]
    · rw [censusBegin_waits _ (h.imp_left otherCensus_iff.2)]
      exact ⟨rfl, rfl⟩
    · rw [censusBegin_runs _ (otherCensus_eq_false_iff.2 alone) zero]
      refine ⟨by rw [censusRun_cu], censusRun_held hm, ?_⟩
      rw [censusRun_cu]
      exact onTable_ofNat s.ev.table hl
  · exact exec_abandonCensus hs (by simp only [abandonAnswer, hr])
  · exact exec_abandonCensus hs (by simp only [abandonAnswer, hw])
  · cases hc : s.cu.state with
    | running => exact absurd hc hr
    | waiting => exact absurd hc hw
    | idle | complete | abandoned => simp only [abandonAnswer, hc, wrongState, statusWrong]

end Sys2Proof.Machine

namespace Sys2Proof.Machine

/-! ## The step and the answer of every command (R185, logs 1, 2 and 14) -/

/-- Settles O1: the queue's front is what the step matches on. -/
theorem stepRunsTheFrontCommand : Obligations.StepRunsTheFrontCommand := fun _ _ _ => rfl

section Answers

variable {s : State}

/-- The model's own fields stand: no slow-clock period is counted and the queue is as it was (logs 1 and 14). -/
def keepsClockAndQueue (s t : State) : Prop := t.time = s.time ∧ t.pending = s.pending

@[simp] theorem keepsClockAndQueue_iff (s t : State) :
    keepsClockAndQueue s t ↔ t.time = s.time ∧ t.pending = s.pending := Iff.rfl

/-- The command's outcome is a next state, with the period count and the queue kept. -/
def answersNext (o : Host.Outcome State Fault Refusal) (s : State) : Prop := ∃ t, o = .next t ∧ keepsClockAndQueue s t

/-- Every part but the two own fields is one that a command may change. -/
theorem keepsClockAndQueue.changesOnly {t : State} (h : keepsClockAndQueue s t) :
    changesOnly [.lif, .re, .mc, .ct, .ev, .mpc, .mu, .da, .cu, .pl, .pins] s t := by
  simpa [changesOnly_iff] using (keepsClockAndQueue_iff s t).1 h

theorem answersNext_next {t : State} (h : keepsClockAndQueue s t) : answersNext (.next t) s := ⟨t, rfl, h⟩

theorem answersNext_gated {f : State → State} (h : keepsClockAndQueue s (f s)) : answersNext (gated s f) s :=
  answersNext_next (iteInduction (fun _ => h) fun _ => ⟨rfl, rfl⟩)

/-- A link command takes no period and leaves the queue when its owner's effect does. -/
theorem answersNext_linkCommand {owner : State → Answer} (h : keepsClockAndQueue s (owner s).state) :
    answersNext (linkCommand owner s) s :=
  answersNext_next (linkCommand_keeps (s := s) (owner := owner) rfl ⟨rfl, rfl⟩ (fun _ _ hu => hu) fun _ => h)

/-- Every command answers a next state, with the period count and the queue kept. -/
theorem exec_answersNext (c : Instr) (s : State) : answersNext (exec c s) s := by
  cases c with
  | coldStart => exact answersNext_next ⟨rfl, rfl⟩
  | warmStart =>
    exact answersNext_next (iteInduction (fun _ => by simp [warmState]) fun _ => ⟨rfl, rfl⟩)
  | rstNLow => exact answersNext_next (by simp [resetLow])
  | startRequest | startAccepted | rejoinTimerExpiry | localDecision | wakeTimerExpiry | patienceExpiry | lingerExpiry
  | heartbeatExpiry | settleExpiry | helloTimerExpiry | graceExpiry | quietDelayExpiry | linkHoldExpiry
  | batteryTimerExpiry | quietIntervalExpiry | conversionEnd | sampleBoundary | exclusionAgeOut | holdOffEnd =>
    exact answersNext_gated (by simp)
  | seekingEnd | startPulseSeen | glitch | round | stuckLineCleared | clockConfirmed | clockSettleTimeout
  | clockOutOfTolerance =>
    exact answersNext_gated (iteInduction (fun _ => by simp) fun _ => ⟨rfl, rfl⟩)
  | stuckLine =>
    simp only [exec, execStuckLine]
    exact answersNext_gated (iteInduction (fun _ => ⟨rfl, rfl⟩) fun _ => by simp)
  | senseFilteredEdge =>
    simp only [exec, execSenseFilteredEdge]
    exact answersNext_gated (by simp)
  | assertedPeriodWatchReading =>
    simp only [exec, execAssertedPeriodWatchReading]
    exact answersNext_gated (by simp)
  | linkSelect | linkDeselect => exact answersNext_next (by simp)
  | unknownCommand =>
    exact answersNext_next (iteInduction (fun _ => by simp) fun _ => ⟨rfl, rfl⟩)
  | readStationStatus | readCauseTable | readEpisodeTable | readDrainRecord | readAndClearEvents =>
    exact answersNext_linkCommand (by simp [reads])
  | readCensus => exact answersNext_linkCommand (by split <;> exact ⟨rfl, rfl⟩)
  | readConfigSection => exact answersNext_linkCommand (by split <;> exact ⟨rfl, rfl⟩)
  | writeConfigSection i b =>
    have written : ∀ b', keepsClockAndQueue s (writeSection i b' s).state := fun b' => by
      rcases writeSection_state s i b' with hs | ⟨-, hs⟩ <;> simp [hs]
    simp only [exec, execWriteConfigSection]
    (repeat' split)
    · exact answersNext_linkCommand (written _)
    · exact answersNext_linkCommand (written _)
    · exact answersNext_next (by simp)
  | fix => exact answersNext_linkCommand (by rcases fixAnswer_state s with hs | ⟨-, hs⟩ <;> simp [hs])
  | postCause i c l p r =>
    exact answersNext_linkCommand (by rcases postAnswer_state s i c l p r with hs | hs | hs <;> simp [hs])
  | releaseCause i => exact answersNext_linkCommand (by rcases releaseAnswer_state s i with hs | hs <;> simp [hs])
  | armTimer n c m => exact answersNext_linkCommand (by rcases armAnswer_state s n c m with hs | hs <;> simp [hs])
  | startCensus l => exact answersNext_linkCommand (by rcases startCensusAnswer_state s l with hs | hs <;> simp [hs])
  | abandonCensus => exact answersNext_linkCommand (by rcases abandonAnswer_state s with hs | hs | hs <;> simp [hs])
  | hello => exact answersNext_linkCommand (by rcases helloAnswer_state s with hs | hs <;> simp [hs])
  | park => exact answersNext_linkCommand (by rcases parkAnswer_state s with hs | hs <;> simp [hs])
  | clearCut => exact answersNext_linkCommand (by rcases clearCutAnswer_state s with hs | hs | hs <;> simp [hs])
  | requestRefill => exact answersNext_linkCommand (by rcases refillAnswer_state s with hs | hs <;> simp [hs])
  | requestRestore => exact answersNext_linkCommand (by rcases restoreAnswer_state s with hs | hs <;> simp [hs])
  | rejoin => exact answersNext_linkCommand (by rcases rejoinAnswer_state s with hs | hs | hs <;> simp [hs])

end Answers

/-- Settles O3. -/
theorem everyCommandAnswersNext : Obligations.EveryCommandAnswersNext := by
  intro c s
  obtain ⟨t, next, kept⟩ := exec_answersNext c s
  exact ⟨t, next, kept.changesOnly⟩

end Sys2Proof.Machine

namespace Sys2Proof

/-! ## The bytes of a link command (R182, R197) -/

/-- No two commands share a command byte, so each byte of R197's table names its own. -/
@[simp] theorem linkCommandOf_code (k : LinkCommand) : linkCommandOf k.code = some k := by
  cases k <;> decide

/-- A value of three bytes is what its bytes spell, most significant first. -/
theorem threeBytes_append (n : BitVec 24) : n.extractLsb' 16 8 ++ n.extractLsb' 8 8 ++ n.extractLsb' 0 8 = n := by
  have high : n.extractLsb' 16 8 ++ n.extractLsb' 8 8 = n.extractLsb' 8 16 :=
    BitVec.extractLsb'_append_extractLsb'_eq_extractLsb' rfl
  have whole : n.extractLsb' 8 16 ++ n.extractLsb' 0 8 = n.extractLsb' 0 24 :=
    BitVec.extractLsb'_append_extractLsb'_eq_extractLsb' rfl
  rw [high, whole, BitVec.extractLsb'_eq_self]

/-- A well-formed WRITE_CONFIG_SECTION carries the whole body of the section it names, and no byte where it names
none. -/
theorem writeConfigSection_wellFormed {i : Byte} {b : List Byte} :
    (Instr.writeConfigSection i b).wellFormed = true ↔ b.length = (bodyLength i).getD 0 := by
  simp [Instr.wellFormed]

theorem decodeLink_writeConfigSection {i : Byte} {b : List Byte} (h : (Instr.writeConfigSection i b).wellFormed = true) :
    decodeLink (LinkCommand.writeConfigSection.code :: i :: b) = some (.writeConfigSection i b) := by
  rw [writeConfigSection_wellFormed] at h
  cases hn : bodyLength i with
  | none =>
    have empty : b = [] := by simpa [hn] using h
    simp [decodeLink, hn, empty]
  | some n =>
    have whole : b.length = n := by simpa [hn] using h
    simp [decodeLink, hn, ← whole]

/-- Settles O16, by the operands that follow the command byte. -/
theorem linkDecodeOfEncode : Obligations.LinkDecodeOfEncode := by
  intro i bs hw he
  cases i with
  | writeConfigSection ident body => exact Option.some.inj he ▸ decodeLink_writeConfigSection hw
  | unknownCommand byte =>
    obtain rfl := Option.some.inj he
    have unnamed : linkCommandOf byte = none := by simpa [Instr.wellFormed] using hw
    simp [decodeLink, unnamed]
  | armTimer timer count mode =>
    obtain rfl := Option.some.inj he
    simp only [decodeLink, linkCommandOf_code]
    rw [threeBytes_append]
  | readConfigSection | postCause | releaseCause | startCensus
  | readStationStatus | readCauseTable | readEpisodeTable | readDrainRecord | readCensus | readAndClearEvents | fix
  | abandonCensus | hello | park | clearCut | requestRefill | requestRestore | rejoin =>
    obtain rfl := Option.some.inj he
    simp only [decodeLink, linkCommandOf_code]
  | _ => exact absurd he (by simp [encodeLink])

end Sys2Proof

namespace Sys2Proof.Machine

/-! ## Commands that are not taken (R181, R183, R184) -/

section Untaken

variable {s : State} {owner : State → Answer}

/-- A link command that is not taken: nothing with no transaction open or the link dead, else refused Busy-clock. -/
def untaken (o : Host.Outcome State Fault Refusal) (s : State) : Prop :=
  (s.linkOpen = false → o = .next s)
    ∧ (s.linkOpen = true → s.mu.clock ≠ .running → o = .next (setTxn (some (.refused statusBusy)) s))

theorem linkCommand_untaken : untaken (linkCommand owner s) s := ⟨linkCommand_closed s owner, linkCommand_busy s owner⟩

/-- A command byte whose arguments are still to come is refused as one that is given whole. -/
theorem awaitArguments_untaken : untaken (.next (awaitArguments s)) s := by
  refine ⟨fun closed => ?_, fun opened busy => ?_⟩
  · simp [awaitArguments, closed]
  · simp [awaitArguments, opened, busy]

theorem writeConfigSection_untaken (i : Byte) (b : List Byte) : untaken (exec (.writeConfigSection i b) s) s := by
  simp only [exec, execWriteConfigSection]
  (repeat' split)
  · exact linkCommand_untaken
  · exact linkCommand_untaken
  · exact awaitArguments_untaken

/-- A byte that names no command is refused Unknown, whatever the fast clock's state (log 9). -/
theorem exec_unknownCommand {b : Byte} (opened : s.linkOpen = true) (unnamed : linkCommandOf b = none) :
    exec (.unknownCommand b) s = .next (setTxn (some (.refused statusUnknown)) s) := by
  simp [exec, execUnknownCommand, opened, unnamed]

/-- Every later byte of a refused transaction shows the refusing status. -/
theorem setTxn_refused_lso (raila : s.mpc.raila = true) (lcs : s.pins.lcs = true) (b : Byte) (k : Nat) :
    (setTxn (some (.refused b)) s).lso k = some b := by
  simp [State.lso, raila, lcs, setTxn, Txn.lsoByte]

end Untaken

/-- Settles O49. -/
theorem untakenCommandsAreRefused : Obligations.UntakenCommandsAreRefused := by
  refine ⟨fun s b => exec_unknownCommand, fun s b k raila lcs => setTxn_refused_lso raila lcs b k, fun s c hc => ?_⟩
  rcases hc with rfl | rfl | rfl | rfl | rfl | rfl | ⟨i, rfl⟩ | ⟨i, b, rfl⟩ | rfl | ⟨i, c, l, p, r, rfl⟩ | ⟨i, rfl⟩
    | ⟨n, c, m, rfl⟩ | ⟨l, rfl⟩ | rfl | rfl | rfl | rfl | rfl | rfl | rfl
  on_goal 8 => exact writeConfigSection_untaken i b
  all_goals exact linkCommand_untaken

/-! ## The configuration sections (R182, R186, R187, R198) -/

section Sections

/-- The six identifiers that name a section, with the bytes of its body (R201). -/
theorem bodyLength_eq_some {i : Byte} {n : Nat} (h : bodyLength i = some n) :
    (i = 1 ∧ n = 4) ∨ (i = 2 ∧ n = 8) ∨ (i = 3 ∧ n = 46) ∨ (i = 4 ∧ n = 25) ∨ (i = 5 ∧ n = 7) ∨ (i = 6 ∧ n = 50) := by
  simp only [bodyLength] at h
  split_ifs at h <;> simp_all

/-- A section has a defined-bits mask for each byte of its body. -/
theorem sectionMask_length {i : Byte} {n : Nat} (h : bodyLength i = some n) : (sectionMask i).length = n := by
  rcases bodyLength_eq_some h with ⟨rfl, rfl⟩ | ⟨rfl, rfl⟩ | ⟨rfl, rfl⟩ | ⟨rfl, rfl⟩ | ⟨rfl, rfl⟩ | ⟨rfl, rfl⟩ <;> decide

/-- The stored body has the bytes of the body that was written. -/
theorem maskBody_length {i : Byte} {b : List Byte} (h : bodyLength i = some b.length) :
    (maskBody i b).length = b.length := by
  simp [maskBody, sectionMask_length h]

/-- The section that was written reads back as the written body with its undefined bits 0. -/
theorem Store.body_write_same (c : Store) {i : Byte} {n : Nat} (h : bodyLength i = some n) (b : List Byte) :
    (c.write i b).body i = some (maskBody i b) := by
  rcases bodyLength_eq_some h with ⟨rfl, -⟩ | ⟨rfl, -⟩ | ⟨rfl, -⟩ | ⟨rfl, -⟩ | ⟨rfl, -⟩ | ⟨rfl, -⟩ <;> rfl

/-- A write replaces no other section. -/
theorem Store.body_write_ne (c : Store) {i j : Byte} (h : j ≠ i) (b : List Byte) : (c.write i b).body j = c.body j := by
  simp only [Store.write]
  split_ifs <;> simp_all [Store.body]

/-- An identifier outside 1 to 6 names no section. -/
theorem Store.body_eq_none (c : Store) {i : Byte} (h : i = 0 ∨ 6 < i.toNat) : c.body i = none := by
  have outside : ∀ k : Byte, k ≠ 0 → k.toNat ≤ 6 → i ≠ k := by
    rintro k zero le rfl
    exact h.elim zero (by omega)
  simp [Store.body, outside]

variable {s : State} {i : Byte} {b : List Byte}

theorem exec_readConfigSection_named (hs : s.linkReady) (h : s.pl.store.body i = some b) :
    exec (.readConfigSection i) s = .next (s.withAnswer 0xA1 b) :=
  linkCommand_unmoved hs (by rw [h]; rfl)

theorem exec_readConfigSection_unnamed (hs : s.linkReady) (h : s.pl.store.body i = none) :
    exec (.readConfigSection i) s = .next (s.withAnswer 0xD4 []) :=
  linkCommand_unmoved hs (by rw [h]; rfl)

/-- With bytes of the body still to come the command is not taken: its transaction waits for them. -/
theorem exec_writeConfigSection_short {n : Nat} (hs : s.linkReady) (hn : bodyLength i = some n) (short : b.length < n) :
    exec (.writeConfigSection i b) s = .next (setTxn (some .arguments) s) := by
  obtain ⟨opened, running⟩ := hs
  simp [exec, execWriteConfigSection, hn, short, awaitArguments, opened, running]

/-- With a complete body the command is taken with the bytes it carries. -/
theorem exec_writeConfigSection_whole (h : (Instr.writeConfigSection i b).wellFormed = true) :
    exec (.writeConfigSection i b) s = linkCommand (writeSection i b) s := by
  rw [writeConfigSection_wellFormed] at h
  cases hn : bodyLength i with
  | none =>
    have empty : b = [] := by simpa [hn] using h
    simp [exec, execWriteConfigSection, hn, empty]
  | some n =>
    have whole : b.length = n := by simpa [hn] using h
    simp [exec, execWriteConfigSection, hn, ← whole]

theorem writeSection_unnamed (h : bodyLength i = none) : writeSection i b s = outOfRange s := by
  simp [writeSection, h]

theorem writeSection_of_fixed (h : bodyLength i ≠ none) (hf : s.fixed = true) : writeSection i b s = wrongState s := by
  simp [writeSection, h, hf]

theorem writeSection_of_unfixed (h : bodyLength i ≠ none) (hf : s.fixed = false) :
    writeSection i b s = done (s.withPl { s.pl with store := s.pl.store.write i b }) := by
  simp [writeSection, h, hf]

end Sections

/-- Settles O51. -/
theorem readConfigSectionAnswersTheBody : Obligations.ReadConfigSectionAnswersTheBody := fun s hs =>
  ⟨exec_readConfigSection_named hs rfl, exec_readConfigSection_named hs rfl, exec_readConfigSection_named hs rfl,
    exec_readConfigSection_named hs rfl, exec_readConfigSection_named hs rfl, exec_readConfigSection_named hs rfl,
    fun _ h => exec_readConfigSection_unnamed hs (s.pl.store.body_eq_none h)⟩

/-- Settles O52: a body too short, an identifier that names no section, the fixed configuration, and the write. -/
theorem writeConfigSectionReplacesTheBody : Obligations.WriteConfigSectionReplacesTheBody := by
  refine ⟨fun s i b n => exec_writeConfigSection_short, fun s i b hs hw => ?_⟩
  rw [exec_writeConfigSection_whole hw]
  refine ⟨fun h => linkCommand_unmoved hs (writeSection_unnamed h),
    fun h hf => linkCommand_unmoved hs (writeSection_of_fixed h hf), fun h hf => ?_⟩
  obtain ⟨n, hn⟩ := Option.ne_none_iff_exists'.1 h
  have whole : b.length = n := by simpa [hn] using writeConfigSection_wellFormed.1 hw
  have owner := writeSection_of_unfixed (b := b) h hf
  have taken := linkCommand_answers (owner := writeSection i b) hs (by rw [owner]; exact linkReady_raila s hs)
  rw [owner] at taken
  exact ⟨_, taken, rfl, s.pl.store.body_write_same hn b, maskBody_length (whole ▸ hn),
    fun j hj => s.pl.store.body_write_ne hj b, rfl, by simp [changesOnly_iff, done]⟩

/-! ## Notice requests (R191) -/

section Notices

variable {s : State} {owner : State → Answer} {p : Pl}

/-- A notice request that is held raises a Status want: at a Member it stands in the want set, in local mode a decision
is due, and in Joining nothing is raised (R31, R55). -/
theorem linkCommand_notice (hs : s.linkReady) (ho : owner s = done (raiseStatus (s.withPl p))) :
    ∃ t, linkCommand owner s = .next t ∧ t.pl = { p with txn := some (.taken [0xA1]) }
      ∧ (s.mc.state = .member → t.re.status.held = true) ∧ (s.isLocal = true → t.mc.decisionDue = true)
      ∧ (s.mc.state = .joining → t.re = s.re) ∧ changesOnly [.pl, .re, .mc] s t ∧ wantFrame s t := by
  have taken := linkCommand_answers (owner := owner) hs (by rw [ho, done]; simpa using linkReady_raila s hs)
  rw [ho, done] at taken
  refine ⟨_, taken, by simp [State.withAnswer, statusDone], ?_⟩
  rw [wantFrame, (withAnswer_frame _ _ _).2.1, (withAnswer_frame _ _ _).2.2.1]
  exact ⟨raiseStatus_held (s.withPl p), raiseStatus_due (s.withPl p),
    fun joining => by rw [raiseStatus_other (s.withPl p) (.inr joining)]; rfl,
    by simp [changesOnly_iff], raiseStatus_wantFrame (s.withPl p)⟩

end Notices

/-- Settles O58: both requests by the membership state. -/
theorem noticeRequestsAreHeld : Obligations.NoticeRequestsAreHeld := by
  refine fun s hs => ⟨fun hf => ⟨linkCommand_unmoved hs ?_, linkCommand_unmoved hs ?_⟩, fun hf => ?_⟩
  · simp [refillAnswer, hf, wrongState, statusWrong]
  · simp [restoreAnswer, hf, wrongState, statusWrong]
  · obtain ⟨t, refill, tpl, tMember, tLocal, tJoining, tFrame, tWant⟩ :=
      linkCommand_notice (owner := refillAnswer) hs (if_pos hf)
    obtain ⟨u, restore, upl, uMember, uLocal, uJoining, uFrame, uWant⟩ :=
      linkCommand_notice (owner := restoreAnswer) hs (if_pos hf)
    exact ⟨t, u, refill, restore, tpl, upl, fun h => ⟨tMember h, uMember h⟩, fun h => ⟨tLocal h, uLocal h⟩,
      fun h => ⟨tJoining h, uJoining h⟩, tFrame, tWant, uFrame, uWant⟩

/-! ## ATTN (R195) -/

/-- Two words share a bit that is set exactly when their conjunction is not 0. -/
theorem and_ne_zero_iff {w : Nat} (x y : BitVec w) :
    x &&& y ≠ 0#w ↔ ∃ i < w, x.getLsbD i = true ∧ y.getLsbD i = true := by
  rw [ne_eq, BitVec.zero_iff_eq_false, not_forall]
  refine exists_congr fun i => ?_
  rw [BitVec.getLsbD_and, Bool.not_eq_false, Bool.and_eq_true]
  exact ⟨fun h => ⟨BitVec.lt_of_getLsbD h.1, h⟩, fun h => h.2⟩

/-- Settles O60. -/
theorem attnFollowsTheMaskedFlags : Obligations.AttnFollowsTheMaskedFlags := fun s => by
  rw [State.attn, Bool.and_eq_true, bne_iff_ne]
  exact and_congr_right' (and_ne_zero_iff s.pl.events s.pl.store.eventMask)

end Sys2Proof.Machine
